-- ==== Sys2Proof/Word.lean ====
section
/-! DEFINITION. The raw words a controller clocks in and out. A byte on the wire, and the two-byte and three-byte
numbers of the byte layouts (R171), are bits; every quantity the part computes with is a whole number. -/

namespace Sys2Proof

/-- One byte on the wire. -/
abbrev Byte := BitVec 8

/-- A two-byte number on the wire, and the epoch of a supply, which wraps at 65,536. -/
abbrev Half := BitVec 16

/-- A three-byte number on the wire. -/
abbrev Tri := BitVec 24

end Sys2Proof
end

