-- ==== Sys2Proof/Machine/Bytes.lean ====
section
/-! DEFINITION. Numbers as bytes, most significant byte first (R171, R177, R178), and flag bytes, least significant bit
first. -/

namespace Sys2Proof.Machine

/-- A number in one byte. -/
def byte1 (n : Nat) : List Byte := [BitVec.ofNat 8 n]

/-- A number in two bytes, most significant first. -/
def byte2 (n : Nat) : List Byte := [BitVec.ofNat 8 (n / 256), BitVec.ofNat 8 n]

/-- A number in three bytes, most significant first. -/
def byte3 (n : Nat) : List Byte := [BitVec.ofNat 8 (n / 65536), BitVec.ofNat 8 (n / 256), BitVec.ofNat 8 n]

/-- A temperature in two bytes, two's complement. -/
def byteTemp (t : Int) : List Byte := byte2 (BitVec.ofInt 16 t).toNat

/-- The two-byte number of two bytes. -/
def half (hi lo : Byte) : Half := hi ++ lo

/-- The three-byte number of three bytes. -/
def tri (hi mid lo : Byte) : Tri := (hi ++ mid : BitVec 16) ++ lo

/-- The value of a list of flags, the first being bit 0. -/
def flagBits : List Bool → Nat
  | [] => 0
  | b :: bs => (if b then 1 else 0) + 2 * flagBits bs

/-- A flags byte, the first flag being bit 0. -/
def flagByte (bs : List Bool) : List Byte := byte1 (flagBits bs)

/-- Bit n of a byte. -/
def bitOf (b : Byte) (n : Nat) : Bool := b.getLsbD n

/-- R160: the bits of a byte in the order they are clocked, the most significant first. -/
def wireBits (b : Byte) : List Bool :=
  [bitOf b 7, bitOf b 6, bitOf b 5, bitOf b 4, bitOf b 3, bitOf b 2, bitOf b 1, bitOf b 0]

/-- R160: the byte that eight bits clocked in make. -/
def byteOfWire (bits : List Bool) : Byte := BitVec.ofNat 8 (flagBits bits.reverse)

end Sys2Proof.Machine
end

