-- ==== Sys2Proof/Syntax.lean ====
section
/-! DEFINITION. The commands of the part: one constructor of Instr for every row of spec/opcode_table.json, and the
names (ports, compartments, suppliers, supplies, timers) its operands use. A request row carries the port that sends
it, the tag byte of its record and the raw fields of its body (R171), so that an out-of-range field is a value the
owning rule refuses or clamps, and no command is ill-formed for its numbers. -/

namespace Sys2Proof

/-- The four ports, by number (00_scope.md, Fixed identities). -/
inductive Port where
  | panel | boiler | dryer | cabinet
deriving DecidableEq, Repr

/-- The three compartments C0, C1, C2. -/
inductive Comp where
  | c0 | c1 | c2
deriving DecidableEq, Repr

/-- The two supplier ports BOILER and DRYER. -/
inductive Supplier where
  | boiler | dryer
deriving DecidableEq, Repr

/-- The three supplies, numbered 0, 1, 2 (R68). -/
inductive Supply where
  | mains | steam | dryair
deriving DecidableEq, Repr

/-- The timers that count seconds of their own (06, R110; R165 for the take interval). -/
inductive Timer where
  | step (c : Comp)
  | cap (c : Comp)
  | door (c : Comp)
  | reportWatch (c : Comp)
  | statusWatch (u : Supplier)
  | confirmWindow (sup : Supply)
  | takeInterval (p : Port)
deriving DecidableEq, Repr

/-- What a controller clocks within a window (R160): some clocks, one to eight, and the byte whose first bits it sends with
them. Eight clocks from between two bytes exchange a whole byte. -/
structure Clocked where
  byte : Byte
  clocks : Nat
deriving DecidableEq, Repr

/-- A request record as R161 and R171 frame it: length, kind and tag bytes, then the body. -/
structure Record where
  len : Byte
  kind : Byte
  tag : Byte
  body : List Byte
deriving DecidableEq, Repr

/-- The twenty-six requests with the raw fields of their bodies (R171). -/
inductive Request where
  | plnclr (c : Byte)
  | plnadd (c codes cls : Byte) (duration : Half) (target : Tri) (cap : Half) (want min : Byte)
  | bind (c prof : Byte)
  | tstart (c : Byte)
  | tpause (c : Byte)
  | tresume (c : Byte)
  | tstop (c : Byte)
  | brkclr
  | sensrep (c seq : Byte) (t h : Half) (w : Byte)
  | doorrep (c door : Byte)
  | suprep (capacity : Byte) (draw : Half)
  | pwrreq (min want : Half)
  | pwrrel
  | confirm (sup : Byte) (epoch : Half)
  | mainsset (w : Half)
  | allocrd (sup : Byte)
  | tblptr (table row : Byte)
  | tblrd
  | tblwr (image : List Byte)
  | ntfetch
  | ntdone (ch : Byte)
  | ntmask (mask : Half)
  | ntcfg (base enable : Byte)
  | modeset (mode : Byte)
  | reinit
  | portrst
deriving DecidableEq, Repr

/-- The commands: one constructor per row of spec/opcode_table.json, in the table's order. -/
inductive Instr where
  | powerOn
  | selectWindowClose (p : Port)
  | recordComplete (p : Port) (rec : Record)
  | malformedRecord (p : Port) (rec : Record)
  | plnclr (p : Port) (tag c : Byte)
  | plnadd (p : Port) (tag c codes cls : Byte) (duration : Half) (target : Tri) (cap : Half) (want min : Byte)
  | bind (p : Port) (tag c prof : Byte)
  | tstart (p : Port) (tag c : Byte)
  | tpause (p : Port) (tag c : Byte)
  | tresume (p : Port) (tag c : Byte)
  | tstop (p : Port) (tag c : Byte)
  | brkclr (p : Port) (tag : Byte)
  | sensrep (p : Port) (tag c seq : Byte) (t h : Half) (w : Byte)
  | doorrepOpen (p : Port) (tag c : Byte)
  | doorrepClosed (p : Port) (tag c : Byte)
  | suprep (p : Port) (tag capacity : Byte) (draw : Half)
  | pwrreq (p : Port) (tag : Byte) (min want : Half)
  | pwrrel (p : Port) (tag : Byte)
  | confirm (p : Port) (tag sup : Byte) (epoch : Half)
  | mainsset (p : Port) (tag : Byte) (w : Half)
  | allocrd (p : Port) (tag sup : Byte)
  | tblptr (p : Port) (tag table row : Byte)
  | tblrd (p : Port) (tag : Byte)
  | tblwr (p : Port) (tag : Byte) (image : List Byte)
  | ntfetch (p : Port) (tag : Byte)
  | ntdone (p : Port) (tag ch : Byte)
  | ntmask (p : Port) (tag : Byte) (mask : Half)
  | ntcfg (p : Port) (tag base enable : Byte)
  | modeset (p : Port) (tag mode : Byte)
  | reinit (p : Port) (tag : Byte)
  | portrst (p : Port) (tag : Byte)
  | stepTimerExpiry (c : Comp)
  | capTimerExpiry (c : Comp)
  | doorTimerExpiry (c : Comp)
  | reportWatchExpiry (c : Comp)
  | statusWatchExpiry (u : Supplier)
  | confirmWindowExpiry (sup : Supply)
  | requestTake (p : Port)
  | selectWindowOpen (p : Port)
  | byteExchange (p : Port) (b : Clocked)
  | timerSecondEnd (t : Timer)
deriving DecidableEq, Repr

/-- The supplier's port. -/
def Supplier.port : Supplier → Port
  | .boiler => .boiler
  | .dryer => .dryer

/-- The supply a supplier makes (R68). -/
def Supplier.supply : Supplier → Supply
  | .boiler => .steam
  | .dryer => .dryair

/-- The supplier behind a port, if the port is a supplier port. -/
def Port.supplier : Port → Option Supplier
  | .boiler => some .boiler
  | .dryer => some .dryer
  | .panel => none
  | .cabinet => none

/-- The supplier of a supply (R68); MAINS has none. -/
def Supply.supplier : Supply → Option Supplier
  | .mains => none
  | .steam => some .boiler
  | .dryair => some .dryer

/-- All compartments, in the order of R127. -/
def Comp.all : List Comp := [.c0, .c1, .c2]

/-- All ports, by number. -/
def Port.all : List Port := [.panel, .boiler, .dryer, .cabinet]

end Sys2Proof
end

