-- ==== Sys2Proof/Machine/State.lean ====
section
/-! DEFINITION. The state of the part as plain data: every record, queue, counter, mode and pin the spec gives it, the
reasons a step can stop (the part has none), and the state at power-on. -/

namespace Sys2Proof.Machine

/-! ### Per-compartment, per-port, per-supply and per-supplier records -/

/-- One value for each compartment. -/
structure PerComp (α : Type) where
  c0 : α
  c1 : α
  c2 : α
deriving DecidableEq, Repr

/-- One value for each port. -/
structure PerPort (α : Type) where
  panel : α
  boiler : α
  dryer : α
  cabinet : α
deriving DecidableEq, Repr

/-- One value for each supply. -/
structure PerSupply (α : Type) where
  mains : α
  steam : α
  dryair : α
deriving DecidableEq, Repr

/-- One value for each supplier port. -/
structure PerSupplier (α : Type) where
  boiler : α
  dryer : α
deriving DecidableEq, Repr

def PerComp.get {α : Type} (m : PerComp α) : Comp → α
  | .c0 => m.c0
  | .c1 => m.c1
  | .c2 => m.c2

def PerComp.set {α : Type} (m : PerComp α) (c : Comp) (a : α) : PerComp α :=
  match c with
  | .c0 => { m with c0 := a }
  | .c1 => { m with c1 := a }
  | .c2 => { m with c2 := a }

def PerPort.get {α : Type} (m : PerPort α) : Port → α
  | .panel => m.panel
  | .boiler => m.boiler
  | .dryer => m.dryer
  | .cabinet => m.cabinet

def PerPort.set {α : Type} (m : PerPort α) (p : Port) (a : α) : PerPort α :=
  match p with
  | .panel => { m with panel := a }
  | .boiler => { m with boiler := a }
  | .dryer => { m with dryer := a }
  | .cabinet => { m with cabinet := a }

def PerSupply.get {α : Type} (m : PerSupply α) : Supply → α
  | .mains => m.mains
  | .steam => m.steam
  | .dryair => m.dryair

def PerSupply.set {α : Type} (m : PerSupply α) (sup : Supply) (a : α) : PerSupply α :=
  match sup with
  | .mains => { m with mains := a }
  | .steam => { m with steam := a }
  | .dryair => { m with dryair := a }

def PerSupplier.get {α : Type} (m : PerSupplier α) : Supplier → α
  | .boiler => m.boiler
  | .dryer => m.dryer

def PerSupplier.set {α : Type} (m : PerSupplier α) (u : Supplier) (a : α) : PerSupplier α :=
  match u with
  | .boiler => { m with boiler := a }
  | .dryer => { m with dryer := a }

/-! ### Names -/

/-- The modes (R179). -/
inductive Mode where
  | setup | watch | service
deriving DecidableEq, Repr

/-- The standings (R138). -/
inductive Standing where
  | good | limited | cut
deriving DecidableEq, Repr

/-- The treatment states of a compartment (R1). -/
inductive TreatState where
  | empty | loaded | waiting | active | held | paused | ended
deriving DecidableEq, Repr

/-- The report states (R46). -/
inductive ReportState where
  | never | awaiting | fresh | stale
deriving DecidableEq, Repr

/-- The step kinds (R3). -/
inductive StepKind where
  | steam | dwell | dry | cool
deriving DecidableEq, Repr

/-- The units of time (R3). -/
inductive TimeUnit where
  | sec | ten | min
deriving DecidableEq, Repr

/-- The end conditions (R3). -/
inductive StepEnd where
  | wall | gated | moist | dryto
deriving DecidableEq, Repr

/-- The resume policies CONTINUE and REPEAT (R3, R20). -/
inductive Policy where
  | continueStep | repeatStep
deriving DecidableEq, Repr

/-- The last outcome of a step (R3); notYet is the spec's NONE. -/
inductive StepOutcome where
  | notYet | done | capped | heatStop | moistStop | skipped | stopped
deriving DecidableEq, Repr

/-- The treatment outcome (R1); notYet is the spec's NONE. -/
inductive TreatOutcome where
  | notYet | complete | stopped | halted | heatLimit | doorTimeout | doorCount
deriving DecidableEq, Repr

/-- The cause field of a restart record (R22). -/
inductive RestartCause where
  | panel | door | mode | hold
deriving DecidableEq, Repr

/-- The band keys (R30); openAll is the spec's OPEN. -/
inductive BandKey where
  | barred | airNote | airOnly | bothNote | steamNote | openAll
deriving DecidableEq, Repr

/-- The direction of a band's humidity range (R30). -/
inductive Direction where
  | up | down
deriving DecidableEq, Repr

/-- The causes of the breach record (R133), and the principal cause of a BREACH notice (R136). -/
inductive BreachCause where
  | barred | range | key | wet | heat | moist
deriving DecidableEq, Repr

/-- The nine tables (R173). -/
inductive Table where
  | config | port | profile | band | plan | context | supply | entry | breach
deriving DecidableEq, Repr

/-- The last access of a table pointer (R174); never is the spec's NONE. -/
inductive LastAccess where
  | never | read | write
deriving DecidableEq, Repr

/-- The party an entry is held for (R71). -/
inductive Claimant where
  | comp (c : Comp)
  | supplier (u : Supplier)
deriving DecidableEq, Repr

/-- The status codes (R170). -/
inductive Status where
  | ok | part | dup | nothing | oldEpoch | malformed | role | mode | busy | range | absent | unsuited | unbound
  | emptyPlan | full | state | pointer | cut
deriving DecidableEq, Repr

/-- The sixteen notice channels, by name (R150). -/
inductive Channel where
  | mode | expired | stale | noted | dosewarn | treatend | stepend | held | mainsmap | airmap | steammap | overrun
  | standing | shed | door | breach
deriving DecidableEq, Repr

/-! ### Records -/

/-- A capability set, a subset of steam and warm (R28, R177). -/
structure Caps where
  steam : Bool
  warm : Bool
deriving DecidableEq, Repr

/-- The configuration record CONFIG (R177). -/
structure ConfigRec where
  mainsCapacity : Nat
  auxReserve : Nat
  steamPerKw : Nat
  airPerKw : Nat
  confirmWindow : Nat
  reportWatch : Nat
  supplierWatch : Nat
  doorLimit : Nat
  doorMax : Nat
  notedNotices : Bool
  bench : Bool
  caps : PerComp Caps
deriving DecidableEq, Repr

/-- What a step of a kind that draws a supply claims (R3). -/
structure Claim where
  cls : Nat
  want : Nat
  min : Nat
deriving DecidableEq, Repr

/-- A step record (R3). A field that is not present for the step is absent here. -/
structure StepRec where
  kind : StepKind
  unit : TimeUnit
  ending : StepEnd
  duration : Option Nat
  target : Option Nat
  cap : Option Nat
  policy : Policy
  claim : Option Claim
  lastOutcome : StepOutcome
deriving DecidableEq, Repr

/-- The pause causes (R1). -/
structure PauseSet where
  panel : Bool
  door : Bool
  mode : Bool
deriving DecidableEq, Repr

/-- The hold causes (R1, R124). -/
structure HoldSet where
  barred : Bool
  key : Bool
  range : Bool
  wet : Bool
  stale : Bool
  cut : Bool
deriving DecidableEq, Repr

/-- The permitted set (R124). -/
structure PermSet where
  steam : Bool
  dryair : Bool
deriving DecidableEq, Repr

/-- A restart record (R22). -/
structure Restart where
  step : Nat
  elapsed : Nat
  phase : Nat
  cause : RestartCause
deriving DecidableEq, Repr

/-- The compartment context (R1), with the fields of R46, R117 and R124. -/
structure Context where
  state : TreatState
  profile : Fin 16
  step : Nat
  pause : PauseSet
  hold : HoldSet
  heatLimited : Bool
  moistLimited : Bool
  hd : Nat
  md : Nat
  ws : Nat
  heatWarned : Bool
  moistWarned : Bool
  lastT : Int
  lastH : Nat
  lastW : Nat
  prevHeat : Nat
  prevMoist : Nat
  report : ReportState
  lastSeq : Option Byte
  baseline : Bool
  wet : Bool
  doorOpen : Bool
  doorCount : Nat
  doorTimer : Nat
  stepUnits : Nat
  stepPhase : Nat
  capUnits : Nat
  capPhase : Nat
  watch : Nat
  mdStart : Nat
  noted : Bool
  restart : Option Restart
  outcome : TreatOutcome
  permitted : PermSet
deriving DecidableEq, Repr

/-- A profile row (R28). -/
structure Profile where
  present : Bool
  requires : Caps
  tRef : Int
  hRef : Nat
  hHot : Nat
  hdLimit : Nat
  mdLimit : Nat
  wMax : Nat
  bandBase : Int
  bandWidth : Nat
deriving DecidableEq, Repr

/-- A band row (R30). -/
structure Band where
  key : BandKey
  direction : Direction
  hBound : Nat
  noted : Bool
  steamed : Bool
deriving DecidableEq, Repr

/-- An entry of a supply list (R71). Its time granted is its place in the supply's grant order (R72). -/
structure Entry where
  claimant : Claimant
  code : Nat
  restrained : Bool
  min : Nat
  want : Nat
  inForce : Nat
  offered : Option Nat
  warm : Bool
deriving DecidableEq, Repr

/-- A supply record (R68), with its entry list (oldest first) and its grant order (oldest first, R72). -/
structure SupplyRec where
  effCap : Nat
  epoch : Half
  offerOut : Bool
  window : Nat
  entries : List Entry
  grants : List Claimant
deriving DecidableEq, Repr

/-- What the part keeps of a supplier port: its reported capacity, draw and silence (R68, R76), its status watch
(R120), and its PORT priority (R173). -/
structure Feeder where
  reported : Nat
  draw : Nat
  silent : Bool
  watch : Nat
  priority : Nat
deriving DecidableEq, Repr

/-- The cause set of the breach record (R133). -/
structure BreachSet where
  barred : Bool
  range : Bool
  key : Bool
  wet : Bool
  heat : Bool
  moist : Bool
deriving DecidableEq, Repr

/-- The breach record (R133). -/
structure Breach where
  frozen : Bool
  causes : BreachSet
  comp : Option Comp
  supply : Option Supply
  band : Option (Fin 8)
  t : Int
  h : Nat
  w : Nat
  hd : Nat
  md : Nat
  step : Nat
  later : Bool
deriving DecidableEq, Repr

/-- What the Standing Monitor holds of a port (R138). -/
structure Score where
  rfs : Nat
  dfs : Nat
  standing : Standing
  readmission : Nat
deriving DecidableEq, Repr

/-- The detail of a pending channel (R149). -/
structure Detail where
  comps : PerComp Bool
  supplies : PerSupply Bool
  principal : Option BreachCause
deriving DecidableEq, Repr

/-- The notice state of a port (R149). Channel n of the pending set is entry n; bit n of mask and inService is
channel n. -/
structure Notice where
  pending : Vector (Option Detail) 16
  mask : Half
  inService : Half
  enable : Bool
  base : Nat
  line : Bool
deriving DecidableEq, Repr

/-- Record assembly (R161); assembling keeps the bytes received so far. -/
inductive Assembly where
  | idle
  | assembling (bytes : List Byte)
  | discarding
deriving DecidableEq, Repr

/-- What the CPI of a port holds (R160 to R165). bits are the bits of the unfinished inbound byte, first one first; begun
says that bits of the byte at the head of the outbound queue have been clocked out, but not its eighth; sent counts the
bytes of the head reply clocked out whole; lastOut is the last byte clocked out whole (the model's own field). -/
structure Cpi where
  selected : Bool
  assembly : Assembly
  bits : List Bool
  inbound : List Record
  outbound : List (List Byte)
  sent : Nat
  begun : Bool
  lastOut : Byte
  interval : Nat
deriving DecidableEq, Repr

/-- A table pointer (R174). -/
structure Pointer where
  table : Table
  row : Nat
  part : Nat
  last : LastAccess
  spoiled : Bool
deriving DecidableEq, Repr

/-! ### The state and the ways a step can stop -/

/-- The state of the part, and the queue of the commands that are waiting. -/
structure State where
  mode : Mode
  config : ConfigRec
  comps : PerComp Context
  plans : PerComp (List StepRec)
  profiles : Vector Profile 16
  bands : Vector Band 128
  supplies : PerSupply SupplyRec
  feeders : PerSupplier Feeder
  breach : Breach
  scores : PerPort Score
  notices : PerPort Notice
  cpis : PerPort Cpi
  pointers : PerPort Pointer
  pending : List Instr
deriving DecidableEq, Repr

/-- The part has no fault: nothing the spec describes stops it, so no meaning raises one (safe). -/
inductive Fault where
deriving DecidableEq, Repr

/-- The refusals. -/
inductive Refusal where
  /-- Raised by an arm of exec whose command has no meaning yet; no arm of this model raises it (safe). -/
  | notModelled (mnemonic : String)
deriving DecidableEq, Repr

/-! ### Values at power-on -/

def PauseSet.none : PauseSet := ⟨false, false, false⟩
def HoldSet.none : HoldSet := ⟨false, false, false, false, false, false⟩
def PermSet.none : PermSet := ⟨false, false⟩
def BreachSet.none : BreachSet := ⟨false, false, false, false, false, false⟩

/-- R177: CONFIG at power-on. -/
def ConfigRec.powerOn : ConfigRec where
  mainsCapacity := 3600
  auxReserve := 200
  steamPerKw := 25
  airPerKw := 40
  confirmWindow := 3
  reportWatch := 10
  supplierWatch := 10
  doorLimit := 120
  doorMax := 8
  notedNotices := true
  bench := false
  caps := ⟨⟨true, true⟩, ⟨true, true⟩, ⟨true, true⟩⟩

/-- R2, R67, R124: a compartment context at power-on and after REINIT. -/
def Context.powerOn : Context where
  state := .empty
  profile := 0
  step := 0
  pause := .none
  hold := .none
  heatLimited := false
  moistLimited := false
  hd := 0
  md := 0
  ws := 0
  heatWarned := false
  moistWarned := false
  lastT := 0
  lastH := 0
  lastW := 0
  prevHeat := 0
  prevMoist := 0
  report := .never
  lastSeq := Option.none
  baseline := false
  wet := false
  doorOpen := false
  doorCount := 0
  doorTimer := 0
  stepUnits := 0
  stepPhase := 0
  capUnits := 0
  capPhase := 0
  watch := 0
  mdStart := 0
  noted := false
  restart := Option.none
  outcome := .notYet
  permitted := .none

/-- R45: a profile row at power-on, and R29: the fixed row 0, which reads the same. -/
def Profile.powerOn : Profile where
  present := false
  requires := ⟨false, false⟩
  tRef := 0
  hRef := 0
  hHot := 1001
  hdLimit := 0
  mdLimit := 0
  wMax := 255
  bandBase := 0
  bandWidth := 10

/-- R45: a band row at power-on, and R29: the fixed rows 0 to 7, which read the same. -/
def Band.powerOn : Band where
  key := .barred
  direction := .up
  hBound := 0
  noted := false
  steamed := false

/-- R93: a supply record at power-on and after REINIT, at an effective capacity. -/
def SupplyRec.powerOn (effCap : Nat) : SupplyRec where
  effCap := effCap
  epoch := 0
  offerOut := false
  window := 0
  entries := []
  grants := []

/-- R93, R120, R180: what is kept of a supplier at power-on, at its priority. -/
def Feeder.powerOn (priority : Nat) : Feeder where
  reported := 0
  draw := 0
  silent := true
  watch := 0
  priority := priority

/-- R133: the clear breach record. -/
def Breach.clear : Breach where
  frozen := false
  causes := .none
  comp := Option.none
  supply := Option.none
  band := Option.none
  t := 0
  h := 0
  w := 0
  hd := 0
  md := 0
  step := 0
  later := false

/-- R138: the scores of a port at power-on and after REINIT. -/
def Score.powerOn : Score where
  rfs := 0
  dfs := 0
  standing := .good
  readmission := 0

/-- R155: the mask set a role has at power-on. The unmasked channels of BOILER are 15, 13, 12, 11, 10, 8, 2, 1, 0; of
DRYER 15, 13, 12, 11, 9, 8, 2, 1, 0; of CABINET 15, 14, 12, 11, 10, 9, 7, 6, 5, 2, 0; PANEL masks nothing. -/
def roleMask : Port → Half
  | .panel => 0x0000
  | .boiler => ~~~ 0xBD07
  | .dryer => ~~~ 0xBB07
  | .cabinet => ~~~ 0xDEE5

/-- R158: the notice state of a port at power-on and after REINIT. -/
def Notice.powerOn (p : Port) : Notice where
  pending := Vector.replicate 16 Option.none
  mask := roleMask p
  inService := 0
  enable := false
  base := 0
  line := false

/-- R169: the CPI of a port at power-on. The window is closed and the last byte out is 0x00: DESIGN CHOICE, log 4. -/
def Cpi.powerOn : Cpi where
  selected := false
  assembly := .idle
  bits := []
  inbound := []
  outbound := []
  sent := 0
  begun := false
  lastOut := 0
  interval := 1

/-- R174: the pointer of a port at power-on. It is spoiled; its other fields are DESIGN CHOICE, log 5. -/
def Pointer.powerOn : Pointer where
  table := .config
  row := 0
  part := 0
  last := .never
  spoiled := true

/-- R180: the part at power-on. Nothing waits in the queue of commands. -/
def State.reset : State where
  mode := .setup
  config := .powerOn
  comps := ⟨.powerOn, .powerOn, .powerOn⟩
  plans := ⟨[], [], []⟩
  profiles := Vector.replicate 16 .powerOn
  bands := Vector.replicate 128 .powerOn
  supplies := ⟨.powerOn 3400, .powerOn 0, .powerOn 0⟩
  feeders := ⟨.powerOn 2, .powerOn 3⟩
  breach := .clear
  scores := ⟨.powerOn, .powerOn, .powerOn, .powerOn⟩
  notices := ⟨.powerOn .panel, .powerOn .boiler, .powerOn .dryer, .powerOn .cabinet⟩
  cpis := ⟨.powerOn, .powerOn, .powerOn, .powerOn⟩
  pointers := ⟨.powerOn, .powerOn, .powerOn, .powerOn⟩
  pending := []

end Sys2Proof.Machine
end

