-- ==== Sys2Proof/Machine/Ops.lean ====
section
/-! DEFINITION. The named operations over the records of the state: every read goes through a reader and every write
through a setter or a modifier of this file. -/

namespace Sys2Proof.Machine

/-! ### Readers -/

def State.comp (s : State) (c : Comp) : Context := s.comps.get c
def State.plan (s : State) (c : Comp) : List StepRec := s.plans.get c
def State.profile (s : State) (i : Fin 16) : Profile := s.profiles.get i
def State.band (s : State) (i : Fin 128) : Band := s.bands.get i
def State.supply (s : State) (sup : Supply) : SupplyRec := s.supplies.get sup
def State.feeder (s : State) (u : Supplier) : Feeder := s.feeders.get u
def State.score (s : State) (p : Port) : Score := s.scores.get p
def State.notice (s : State) (p : Port) : Notice := s.notices.get p
def State.cpi (s : State) (p : Port) : Cpi := s.cpis.get p
def State.pointer (s : State) (p : Port) : Pointer := s.pointers.get p

/-! ### Setters -/

def State.setMode (s : State) (m : Mode) : State := { s with mode := m }
def State.setConfig (s : State) (cfg : ConfigRec) : State := { s with config := cfg }
def State.setComp (s : State) (c : Comp) (x : Context) : State := { s with comps := s.comps.set c x }
def State.setPlan (s : State) (c : Comp) (x : List StepRec) : State := { s with plans := s.plans.set c x }
def State.setProfile (s : State) (i : Fin 16) (x : Profile) : State :=
  { s with profiles := s.profiles.set i.val x i.isLt }
def State.setBand (s : State) (i : Fin 128) (x : Band) : State := { s with bands := s.bands.set i.val x i.isLt }
def State.setSupply (s : State) (sup : Supply) (x : SupplyRec) : State :=
  { s with supplies := s.supplies.set sup x }
def State.setFeeder (s : State) (u : Supplier) (x : Feeder) : State := { s with feeders := s.feeders.set u x }
def State.setBreach (s : State) (x : Breach) : State := { s with breach := x }
def State.setScore (s : State) (p : Port) (x : Score) : State := { s with scores := s.scores.set p x }
def State.setNotice (s : State) (p : Port) (x : Notice) : State := { s with notices := s.notices.set p x }
def State.setCpi (s : State) (p : Port) (x : Cpi) : State := { s with cpis := s.cpis.set p x }
def State.setPointer (s : State) (p : Port) (x : Pointer) : State := { s with pointers := s.pointers.set p x }

/-! ### Modifiers -/

def State.modComp (s : State) (c : Comp) (f : Context → Context) : State := s.setComp c (f (s.comp c))
def State.modSupply (s : State) (sup : Supply) (f : SupplyRec → SupplyRec) : State :=
  s.setSupply sup (f (s.supply sup))
def State.modFeeder (s : State) (u : Supplier) (f : Feeder → Feeder) : State := s.setFeeder u (f (s.feeder u))
def State.modCpi (s : State) (p : Port) (f : Cpi → Cpi) : State := s.setCpi p (f (s.cpi p))
def State.modPointer (s : State) (p : Port) (f : Pointer → Pointer) : State := s.setPointer p (f (s.pointer p))

/-! ### Readings of the state the blocks share -/

/-- R1: a treatment is running in WAITING, ACTIVE, HELD and PAUSED. -/
def TreatState.isRunning : TreatState → Bool
  | .waiting => true
  | .active => true
  | .held => true
  | .paused => true
  | .empty => false
  | .loaded => false
  | .ended => false

/-- R1: the compartment is running. -/
def State.running (s : State) (c : Comp) : Bool := (s.comp c).state.isRunning

/-- R1, R60: the compartment's restrained bit. -/
def Context.restrained (x : Context) : Bool := x.heatWarned || x.moistWarned

/-- The standing of a port. -/
def State.standing (s : State) (p : Port) : Standing := (s.score p).standing

/-- The step record the compartment's step index names. -/
def State.curStep (s : State) (c : Comp) : Option StepRec := (s.plan c)[(s.comp c).step]?

/-- R3: the supply a step kind draws. -/
def StepKind.supply : StepKind → Option Supply
  | .steam => some .steam
  | .dry => some .dryair
  | .cool => some .dryair
  | .dwell => none

/-- The supply the current step draws. -/
def State.curSupply (s : State) (c : Comp) : Option Supply := (s.curStep c).bind fun st => st.kind.supply

/-- R28: a profile is in use while it is bound to a running compartment. -/
def State.profileInUse (s : State) (i : Fin 16) : Bool :=
  Comp.all.any fun c => s.running c && (s.comp c).profile == i

/-- Writes the last outcome of one step of a plan. -/
def setOutcome (plan : List StepRec) (i : Nat) (o : StepOutcome) : List StepRec :=
  match plan, i with
  | [], _ => []
  | st :: rest, 0 => { st with lastOutcome := o } :: rest
  | st :: rest, i + 1 => st :: setOutcome rest i o

/-- Writes the last outcome of step i of a compartment's plan. -/
def State.setStepOutcome (s : State) (c : Comp) (i : Nat) (o : StepOutcome) : State :=
  s.setPlan c (setOutcome (s.plan c) i o)

/-- The pause-cause set is empty. -/
def PauseSet.isEmpty (x : PauseSet) : Bool := !(x.panel || x.door || x.mode)

/-- Whether a supply is in a permitted set; MAINS is in none. -/
def PermSet.has (x : PermSet) : Supply → Bool
  | .steam => x.steam
  | .dryair => x.dryair
  | .mains => false

/-! ### Sets of compartments and supplies -/

def compsNone : PerComp Bool := ⟨false, false, false⟩
def compsOne (c : Comp) : PerComp Bool := compsNone.set c true
def compsUnion (x y : PerComp Bool) : PerComp Bool := ⟨x.c0 || y.c0, x.c1 || y.c1, x.c2 || y.c2⟩
def suppliesNone : PerSupply Bool := ⟨false, false, false⟩
def suppliesOne (sup : Supply) : PerSupply Bool := suppliesNone.set sup true
def suppliesUnion (x y : PerSupply Bool) : PerSupply Bool :=
  ⟨x.mains || y.mains, x.steam || y.steam, x.dryair || y.dryair⟩

/-- The compartment of a claimant, as a set; a supplier names none. -/
def Claimant.comps : Claimant → PerComp Bool
  | .comp c => compsOne c
  | .supplier _ => compsNone

end Sys2Proof.Machine
end

