-- ==== Sys2Proof/Machine/Operands.lean ====
section
/-! DEFINITION. The operand forms of the requests: which compartment, supply, table, mode or door state a byte names,
and the clamps ("a value outside its range is replaced by the nearest end of the range", 00_scope.md). -/

namespace Sys2Proof.Machine

/-- The compartment a byte names: 0..2. -/
def compOf (b : Byte) : Option Comp :=
  match b.toNat with
  | 0 => some .c0
  | 1 => some .c1
  | 2 => some .c2
  | _ => none

/-- The supply a byte names: 0 MAINS, 1 STEAM, 2 DRYAIR (R171). -/
def supplyOf (b : Byte) : Option Supply :=
  match b.toNat with
  | 0 => some .mains
  | 1 => some .steam
  | 2 => some .dryair
  | _ => none

/-- The mode a byte names: 0 SETUP, 1 WATCH, 2 SERVICE (R171). -/
def modeOf (b : Byte) : Option Mode :=
  match b.toNat with
  | 0 => some .setup
  | 1 => some .watch
  | 2 => some .service
  | _ => none

/-- The table a byte names (R173). -/
def tableOf (b : Byte) : Option Table :=
  match b.toNat with
  | 0 => some .config
  | 1 => some .port
  | 2 => some .profile
  | 3 => some .band
  | 4 => some .plan
  | 5 => some .context
  | 6 => some .supply
  | 7 => some .entry
  | 8 => some .breach
  | _ => none

/-- The door state a byte names: 0x00 CLOSED (false), 0x01 OPEN (true) (R171). -/
def doorOf (b : Byte) : Option Bool :=
  match b.toNat with
  | 0 => some false
  | 1 => some true
  | _ => none

/-- The rows of a table (R173). -/
def Table.rows : Table → Nat
  | .config => 1
  | .port => 4
  | .profile => 16
  | .band => 128
  | .plan => 36
  | .context => 3
  | .supply => 3
  | .entry => 9
  | .breach => 1

/-- The parts of a row of a table (R173). -/
def Table.parts : Table → Nat
  | .profile => 2
  | .context => 2
  | .config => 1
  | .port => 1
  | .band => 1
  | .plan => 1
  | .supply => 1
  | .entry => 1
  | .breach => 1

/-- A whole number clamped to lo..hi. -/
def clampNat (lo hi n : Nat) : Nat := max lo (min hi n)

/-- An integer clamped to lo..hi. -/
def clampInt (lo hi n : Int) : Int := max lo (min hi n)

/-- A temperature as R47 and R28 take it: signed, clamped to −400..1250. -/
def clampTemp (t : Half) : Int := clampInt (-400) 1250 t.toInt

/-- A humidity as R47 takes it: clamped to 0..1000. -/
def clampHumidity (h : Half) : Nat := min 1000 h.toNat

/-- R68: the supply maximum. -/
def supplyMax : Supply → Nat
  | .mains => 9999
  | .steam => 120
  | .dryair => 255

/-- R111: the seconds of a unit. -/
def TimeUnit.seconds : TimeUnit → Nat
  | .sec => 1
  | .ten => 10
  | .min => 60

/-- R171: the kind of byte 4 of a PLNADD body, bits 7–6. -/
def kindOfCodes (b : Byte) : StepKind :=
  match b.toNat / 64 with
  | 0 => .steam
  | 1 => .dwell
  | 2 => .dry
  | _ => .cool

/-- R171: the unit, bits 5–4; code 3 is not defined. -/
def unitOfCodes (b : Byte) : Option TimeUnit :=
  match b.toNat / 16 % 4 with
  | 0 => some .sec
  | 1 => some .ten
  | 2 => some .min
  | _ => none

/-- R171: the end condition, bits 3–2. -/
def endOfCodes (b : Byte) : StepEnd :=
  match b.toNat / 4 % 4 with
  | 0 => .wall
  | 1 => .gated
  | 2 => .moist
  | _ => .dryto

/-- R171: the policy, bit 0. -/
def policyOfCodes (b : Byte) : Policy := if bitOf b 0 then .repeatStep else .continueStep

/-- R3: the legal pairs of kind and end. -/
def legalEnd : StepKind → StepEnd → Bool
  | .steam, .wall => true
  | .steam, .gated => true
  | .steam, .moist => true
  | .steam, .dryto => false
  | .dry, .wall => true
  | .dry, .gated => true
  | .dry, .moist => false
  | .dry, .dryto => true
  | .cool, .wall => true
  | .cool, .gated => true
  | .cool, .moist => false
  | .cool, .dryto => true
  | .dwell, .wall => true
  | .dwell, .gated => false
  | .dwell, .moist => false
  | .dwell, .dryto => false

/-- R41, R177: the requires set and the present field of a PROFILE flags byte; bits 3..7 set are an undefined code. -/
def profileFlagsOf (b : Byte) : Option (Bool × Caps) :=
  if b.toNat < 8 then some (bitOf b 0, ⟨bitOf b 1, bitOf b 2⟩) else none

/-- R177: the key of a BAND image. -/
def keyOf (b : Byte) : Option BandKey :=
  match b.toNat with
  | 0 => some .barred
  | 1 => some .airNote
  | 2 => some .airOnly
  | 3 => some .bothNote
  | 4 => some .steamNote
  | 5 => some .openAll
  | _ => none

/-- R177: the direction of a BAND image. -/
def directionOf (b : Byte) : Option Direction :=
  match b.toNat with
  | 0 => some .up
  | 1 => some .down
  | _ => none

end Sys2Proof.Machine
end

