-- ==== Sys2Proof/Machine/Allocation.lean ====
section
/-! DEFINITION. The allocation pass on the entries of one supply (R85 to R89, R106), as a computation on plain data:
stage A sheds, stage B serves, stage C tops up, and bench operation moves the offers into force. What the pass does to
the rest of the part (signals, epoch, notices, window) is in Machine/Supply.lean. -/

namespace Sys2Proof.Machine

/-- R71: the held amount of an entry. -/
def Entry.held (e : Entry) : Nat := e.offered.getD e.inForce

/-- An entry inside a pass, with what the pass has done to it so far. -/
structure Slot where
  entry : Entry
  /-- The entry's effective want in this pass (R85). -/
  effWant : Nat
  /-- An amount of the entry changed (R90). -/
  touched : Bool
  /-- Stage A or a preemption reduced the held amount (R90). -/
  shed : Bool
  /-- Sweep 3 brought the in-force amount from positive to 0 (R105). -/
  outOfForce : Bool
  /-- Bench operation brought the in-force amount from 0 to positive (R105, R106). -/
  intoForce : Bool
deriving DecidableEq, Repr

/-- The entries of one supply inside a pass, in slot order, and the grant order, oldest first. -/
structure PassState where
  slots : List Slot
  grants : List Claimant
deriving DecidableEq, Repr

/-- Σ of R85: the sum of the held amounts. -/
def PassState.total (ps : PassState) : Nat := (ps.slots.map fun x => x.entry.held).sum

/-- The slot of a claimant (R72: at most one). -/
def PassState.find (ps : PassState) (cl : Claimant) : Option Slot :=
  ps.slots.find? fun x => x.entry.claimant == cl

/-- Changes the slot of a claimant. -/
def PassState.update (ps : PassState) (cl : Claimant) (f : Slot → Slot) : PassState :=
  { ps with slots := ps.slots.map fun x => if x.entry.claimant == cl then f x else x }

/-- R72: an entry whose held amount falls to 0 leaves the grant order. -/
def PassState.leaveIfEmpty (ps : PassState) (cl : Claimant) : PassState :=
  match ps.find cl with
  | some x => if x.entry.held = 0 then { ps with grants := ps.grants.filter (· != cl) } else ps
  | none => ps

/-- R72: on an increase the entry moves to the newest end of the grant order. -/
def PassState.toNewest (ps : PassState) (cl : Claimant) : PassState :=
  { ps with grants := ps.grants.filter (· != cl) ++ [cl] }

/-! ### Orders -/

/-- Inserts a slot before the first one it may precede; the sort below is stable. -/
def insertSlot (before : Slot → Slot → Bool) (x : Slot) : List Slot → List Slot
  | [] => [x]
  | y :: ys => if before y x then y :: insertSlot before x ys else x :: y :: ys

/-- A stable sort: an element stays before every later element that is not strictly before it. -/
def sortSlots (before : Slot → Slot → Bool) : List Slot → List Slot
  | [] => []
  | x :: xs => insertSlot before x (sortSlots before xs)

/-- The place of a claimant in the grant order, 1 the oldest; 0 when it holds nothing (R72). -/
def timeGranted (grants : List Claimant) (cl : Claimant) : Nat :=
  match grants with
  | [] => 0
  | g :: gs => if g == cl then 1 else
      match timeGranted gs cl with
      | 0 => 0
      | n + 1 => n + 2

/-- R85: the serve order, ascending code and, within one code, slot order. -/
def PassState.serveOrder (ps : PassState) : List Claimant :=
  (sortSlots (fun y x => y.entry.code < x.entry.code) ps.slots).map fun x => x.entry.claimant

/-- R85: the shed order, descending code and, within one code, newest time granted first. -/
def PassState.shedOrder (ps : PassState) : List Claimant :=
  (sortSlots (fun y x => x.entry.code < y.entry.code ||
    (x.entry.code == y.entry.code &&
      timeGranted ps.grants x.entry.claimant < timeGranted ps.grants y.entry.claimant)) ps.slots).map
    fun x => x.entry.claimant

/-! ### Stage A: shed (R86) -/

/-- An entry with its offered amount withdrawn. -/
def Slot.dropOffer (x : Slot) : Slot :=
  if x.entry.offered.isSome then { x with entry := { x.entry with offered := none }, touched := true, shed := true }
  else x

/-- An entry whose in-force amount is set to a lower one (an equal one leaves it as it was). -/
def Slot.cutTo (x : Slot) (n : Nat) : Slot :=
  if n < x.entry.inForce then
    { x with
      entry := { x.entry with inForce := n }
      touched := true
      shed := true
      outOfForce := x.outOfForce || n == 0 }
  else x

/-- Sweep 0: a held amount above the effective want loses its offer, and its in-force amount is brought down. -/
def sweepWant (order : List Claimant) (ps : PassState) : PassState :=
  order.foldl (fun ps cl =>
    (ps.update cl fun x => if x.effWant < x.entry.held then x.dropOffer.cutTo x.effWant else x).leaveIfEmpty cl) ps

/-- Sweep 1: offers are withdrawn whole while Σ exceeds C. -/
def sweepOffers (cap : Nat) (order : List Claimant) (ps : PassState) : PassState :=
  order.foldl (fun ps cl => if ps.total ≤ cap then ps else (ps.update cl Slot.dropOffer).leaveIfEmpty cl) ps

/-- Sweep 2: in-force amounts above min are reduced toward min by no more than Σ − C. -/
def sweepAboveMin (cap : Nat) (order : List Claimant) (ps : PassState) : PassState :=
  order.foldl (fun ps cl =>
    let excess := ps.total - cap
    ps.update cl fun x =>
      if x.entry.min < x.entry.inForce then x.cutTo (max x.entry.min (x.entry.inForce - excess)) else x) ps

/-- Sweep 3: whole entries are sent back to waiting while Σ exceeds C. -/
def sweepWhole (cap : Nat) (order : List Claimant) (ps : PassState) : PassState :=
  order.foldl (fun ps cl =>
    if ps.total ≤ cap then ps else (ps.update cl fun x => x.dropOffer.cutTo 0).leaveIfEmpty cl) ps

/-- R86: stage A. -/
def stageA (cap : Nat) (ps : PassState) : PassState :=
  let order := ps.shedOrder
  sweepWhole cap order (sweepAboveMin cap order (sweepOffers cap order (sweepWant order ps)))

/-! ### Stage B: serve (R87, R88) -/

/-- Makes or raises the offer of an entry: its held amount becomes n, and it moves to the newest end of the grant
order. -/
def PassState.offer (ps : PassState) (cl : Claimant) (n : Nat) : PassState :=
  (ps.update cl fun x => { x with entry := { x.entry with offered := some n }, touched := true }).toNewest cl

/-- R88: what can be reclaimed from a slot for an entry of a given code. -/
def Slot.reclaimable (code : Nat) (x : Slot) : Nat :=
  if 0 < x.entry.held ∧ code < x.entry.code then x.entry.held - x.entry.min else 0

/-- R88: takes an amount from a slot, the offered part first. -/
def Slot.take (x : Slot) (n : Nat) : Slot :=
  if n = 0 then x
  else
    match x.entry.offered with
    | none => x.cutTo (x.entry.inForce - n)
    | some o =>
      if x.entry.inForce < o - n then
        { x with entry := { x.entry with offered := some (o - n) }, touched := true, shed := true }
      else x.dropOffer.cutTo (o - n)

/-- R88: walks the shed order, taking from each entry no more than it can give and no more than is still needed. -/
def reclaim (code : Nat) : List Claimant → Nat → PassState → PassState
  | [], _, ps => ps
  | cl :: rest, need, ps =>
    match ps.find cl with
    | none => reclaim code rest need ps
    | some x =>
      let n := min need (x.reclaimable code)
      reclaim code rest (need - n) (ps.update cl fun x => x.take n)

/-- R88: the reclaimable amount for an entry of a given code. -/
def PassState.reclaimTotal (ps : PassState) (code : Nat) : Nat := (ps.slots.map (Slot.reclaimable code)).sum

/-- R87, R88: serves one waiting entry. -/
def serveOne (cap : Nat) (ps : PassState) (cl : Claimant) : PassState :=
  match ps.find cl with
  | none => ps
  | some x =>
    let free := cap - ps.total
    if x.entry.held ≠ 0 then ps
    else if x.effWant ≤ free then ps.offer cl x.effWant
    else if x.entry.min ≤ free then ps.offer cl free
    else if x.entry.restrained then ps
    else if x.entry.min ≤ free + ps.reclaimTotal x.entry.code then
      (reclaim x.entry.code ps.shedOrder (x.entry.min - free) ps).offer cl x.entry.min
    else ps

/-- R87: stage B. -/
def stageB (cap : Nat) (ps : PassState) : PassState := ps.serveOrder.foldl (serveOne cap) ps

/-! ### Stage C: top up (R89) -/

/-- R89: tops up one entry. -/
def topUpOne (cap : Nat) (ps : PassState) (cl : Claimant) : PassState :=
  match ps.find cl with
  | none => ps
  | some x =>
    let free := cap - ps.total
    if 0 < x.entry.held ∧ x.entry.held < x.effWant ∧ 0 < free then
      ps.offer cl (x.entry.held + min (x.effWant - x.entry.held) free)
    else ps

/-- R89: stage C. -/
def stageC (cap : Nat) (ps : PassState) : PassState := ps.serveOrder.foldl (topUpOne cap) ps

/-! ### Bench operation (R106) and the whole pass -/

/-- R95, step 1: the offered amount becomes the in-force amount. -/
def Slot.moveIntoForce (x : Slot) : Slot :=
  match x.entry.offered with
  | none => x
  | some o =>
    { x with
      entry := { x.entry with inForce := o, offered := none }
      touched := true
      intoForce := x.intoForce || (x.entry.inForce == 0 && 0 < o) }

/-- R106: with bench on, every offered amount moves into force at the end of stage C. -/
def benchMove (bench : Bool) (ps : PassState) : PassState :=
  if bench then { ps with slots := ps.slots.map Slot.moveIntoForce } else ps

/-- The entries of a supply as a pass begins. -/
def PassState.start (effWant : Entry → Nat) (entries : List Entry) (grants : List Claimant) : PassState where
  slots := entries.map fun e => ⟨e, effWant e, false, false, false, false⟩
  grants := grants

/-- R85: a pass: stage A, stage B, stage C, and bench operation. -/
def allocate (cap : Nat) (bench : Bool) (effWant : Entry → Nat) (entries : List Entry) (grants : List Claimant) :
    PassState :=
  benchMove bench (stageC cap (stageB cap (stageA cap (PassState.start effWant entries grants))))

end Sys2Proof.Machine
end

