-- ==== Sys2Proof/Config.lean ====
section
/-! DEFINITION. The fixed sizes and thresholds of the part. The spec leaves no value open, so there is no free value
here; what a controller may configure is the CONFIG record of the state. -/

namespace Sys2Proof.Config

/-- R3: a plan holds at most 12 steps. -/
def planSteps : Nat := 12
/-- R46: HD and MD saturate here. -/
def doseTop : Nat := 16777215
/-- R46: WS saturates here. -/
def wetTop : Nat := 65535
/-- R51: the longest interval a report is charged, and the interval of a report arriving in STALE. -/
def staleInterval : Nat := 20
/-- R111: the top of a unit count. -/
def unitTop : Nat := 65535
/-- R138: both fault scores saturate here. -/
def scoreTop : Nat := 511
/-- R138: the least score that makes a port LIMITED. -/
def limitedFrom : Nat := 128
/-- R138: the least score that makes a port CUT. -/
def cutFrom : Nat := 256
/-- R147: the clean duty messages that readmit a CUT port. -/
def readmitAt : Nat := 32
/-- R141: what one duty fault adds to DFS. -/
def dutyFault : Nat := 8
/-- R163: the bytes a port's inbound queue holds at most. -/
def inboundBytes : Nat := 64
/-- R163: the bytes a port's outbound queue holds at most. -/
def outboundBytes : Nat := 128
/-- R165: the outbound bytes that must be free for a take. -/
def takeRoom : Nat := 32

end Sys2Proof.Config
end

