-- ==== Sys2Proof/Machine/Flags.lean ====
section
/-! DEFINITION. The conditions the part computes into flags, levels and scores: the attention line (R152), the standing
(R138), the score rules (R139 to R142, R147), warn levels (R58), and when each timer counts (R112 to R121). -/

namespace Sys2Proof.Machine

/-! ### The attention line -/

/-- R150: the number of a channel. -/
def Channel.num : Channel → Fin 16
  | .mode => 0
  | .expired => 1
  | .stale => 2
  | .noted => 3
  | .dosewarn => 4
  | .treatend => 5
  | .stepend => 6
  | .held => 7
  | .mainsmap => 8
  | .airmap => 9
  | .steammap => 10
  | .overrun => 11
  | .standing => 12
  | .shed => 13
  | .door => 14
  | .breach => 15

/-- The channel numbers, highest first (the order NTFETCH serves them in, R153). -/
def channelsDown : List (Fin 16) := [15, 14, 13, 12, 11, 10, 9, 8, 7, 6, 5, 4, 3, 2, 1, 0]

/-- Channel n is pending. -/
def Notice.isPending (x : Notice) (n : Fin 16) : Bool := (x.pending.get n).isSome

/-- Channel n is pending and not masked. -/
def Notice.isReady (x : Notice) (n : Fin 16) : Bool := x.isPending n && !x.mask.getLsbD n.val

/-- Channel n lies above every channel of the in-service set. -/
def Notice.aboveService (x : Notice) (n : Fin 16) : Bool :=
  channelsDown.all fun m => !x.inService.getLsbD m.val || m.val < n.val

/-- R152: the line is asserted exactly when the pending set holds an unmasked channel above every channel in
service. -/
def Notice.lineCondition (x : Notice) : Bool := channelsDown.any fun n => x.isReady n && x.aboveService n

/-! ### Scores and standing -/

/-- R138: the standing two scores give. -/
def standingOf (rfs dfs : Nat) : Standing :=
  if Config.cutFrom ≤ rfs ∨ Config.cutFrom ≤ dfs then .cut
  else if Config.limitedFrom ≤ rfs ∨ Config.limitedFrom ≤ dfs then .limited
  else .good

/-- R140: RFS after an accepted request of a port that is not CUT. -/
def rfsAccepted (rfs : Nat) : Nat := if rfs ≤ 127 then rfs - 1 else 127

/-- What one event hands the Standing Monitor for one port (R143). -/
structure ScoreEvent where
  /-- A fault of R139. -/
  fault : Bool
  /-- An accepted request (R140). -/
  accepted : Bool
  /-- A clean duty message (R142). -/
  clean : Bool
  /-- A duty fault of R141. -/
  duty : Bool
deriving DecidableEq, Repr

def ScoreEvent.none : ScoreEvent := ⟨false, false, false, false⟩
def ScoreEvent.requestFault : ScoreEvent := { ScoreEvent.none with fault := true }
def ScoreEvent.dutyFault : ScoreEvent := { ScoreEvent.none with duty := true }

/-- A score raised by an amount, saturating at 511. -/
def raiseScore (score by' : Nat) : Nat := min Config.scoreTop (score + by')

/-- R147: whether an event counts toward readmission: an accepted request for PANEL, a clean duty message for the
others. -/
def countsToward (p : Port) (e : ScoreEvent) : Bool :=
  match p with
  | .panel => e.accepted
  | .boiler => e.clean
  | .dryer => e.clean
  | .cabinet => e.clean

/-- R139 to R143, R147: the fields of a port after one event, judged against the standing held before it. -/
def Score.after (x : Score) (p : Port) (e : ScoreEvent) : Score :=
  let faulted := e.fault || e.duty
  if x.standing = .cut then
    if faulted then
      let rfs := if e.fault then raiseScore x.rfs 1 else x.rfs
      let dfs := if e.duty then raiseScore x.dfs Config.dutyFault else x.dfs
      { rfs := rfs, dfs := dfs, standing := standingOf rfs dfs, readmission := 0 }
    else if countsToward p e then
      if Config.readmitAt ≤ x.readmission + 1 then Score.powerOn
      else { x with readmission := x.readmission + 1 }
    else x
  else
    let rfs := if e.accepted then rfsAccepted x.rfs else x.rfs
    let rfs := if e.fault then raiseScore rfs 1 else rfs
    let dfs := if e.clean then x.dfs - 1 else x.dfs
    let dfs := if e.duty then raiseScore dfs Config.dutyFault else dfs
    { rfs := rfs, dfs := dfs, standing := standingOf rfs dfs, readmission := 0 }

/-! ### Doses and levels -/

/-- R58: the warn level of a nonzero limit. -/
def warnLevel (limit : Nat) : Nat := limit - limit / 8

/-- R77: the draw is an overdraw of the in-force mains amount. -/
def overdraw (draw inForce : Nat) : Bool := inForce + inForce / 20 + 50 < draw

/-! ### When the timers count -/

/-- R112: the step timer counts for this end condition in this state. -/
def stepCounts : StepEnd → TreatState → Bool
  | .wall, .waiting => true
  | .wall, .active => true
  | .gated, .active => true
  | .moist, .waiting => true
  | .moist, .active => true
  | .dryto, .waiting => true
  | .dryto, .active => true
  | _, _ => false

/-- R113: the cap timer counts for this end condition in this state. -/
def capCounts : StepEnd → TreatState → Bool
  | .wall, _ => false
  | _, .waiting => true
  | _, .active => true
  | _, .held => true
  | _, _ => false

end Sys2Proof.Machine
end

