-- ==== Sys2Proof/Machine/Notices.lean ====
section
/-! DEFINITION. The Notice Controller (chapter 9): posting, merging, fetching and retiring notices. Every change of a
port's notice state goes through State.updateNotice, which recomputes the attention line (R152). -/

namespace Sys2Proof.Machine

/-- A notice state with its attention line recomputed. -/
def Notice.settle (x : Notice) : Notice := { x with line := x.lineCondition }

/-- R152: changes a port's notice state and recomputes its attention line. -/
def State.updateNotice (s : State) (p : Port) (f : Notice → Notice) : State :=
  s.setNotice p (f (s.notice p)).settle

/-! ### Posting -/

/-- R151: the detail of a channel after a posting merges into it. -/
def Detail.merge (old new : Detail) : Detail where
  comps := compsUnion old.comps new.comps
  supplies := suppliesUnion old.supplies new.supplies
  principal := new.principal.or old.principal

/-- R151: a posting of channel n reaches a port. -/
def Notice.posted (x : Notice) (n : Fin 16) (d : Detail) : Notice :=
  { x with
    pending := x.pending.set n.val
      (some (match x.pending.get n with
        | none => d
        | some old => old.merge d)) n.isLt }

/-- R151: a posting to one port. -/
def postTo (p : Port) (ch : Channel) (d : Detail) (s : State) : State :=
  s.updateNotice p fun x => x.posted ch.num d

/-- R150, R151: a posting to all ports. -/
def post (ch : Channel) (d : Detail) (s : State) : State :=
  Port.all.foldl (fun s p => postTo p ch d s) s

/-- An empty detail. -/
def Detail.none : Detail := ⟨compsNone, suppliesNone, Option.none⟩

/-- A detail naming compartments only. -/
def Detail.ofComps (x : PerComp Bool) : Detail := { Detail.none with comps := x }

/-- A detail naming one compartment only. -/
def Detail.ofComp (c : Comp) : Detail := Detail.ofComps (compsOne c)

/-- A detail naming compartments and one supply. -/
def Detail.ofSupply (x : PerComp Bool) (sup : Supply) : Detail := ⟨x, suppliesOne sup, Option.none⟩

/-- R150: the MAP channel of a supply. -/
def mapChannel : Supply → Channel
  | .mains => .mainsmap
  | .steam => .steammap
  | .dryair => .airmap

/-! ### Fetching, retiring, masks, configuration, reset -/

/-- R153: the channel NTFETCH takes. -/
def Notice.highest (x : Notice) : Option (Fin 16) := channelsDown.find? fun n => x.isReady n

/-- R153: the count of unmasked channels pending. -/
def Notice.readyCount (x : Notice) : Nat := (channelsDown.filter fun n => x.isReady n).length

/-- R153: the notice state after channel n is fetched. -/
def Notice.fetched (x : Notice) (n : Fin 16) : Notice :=
  { x with
    pending := x.pending.set n.val none n.isLt
    inService := if x.enable then x.inService ||| BitVec.twoPow 16 n.val else x.inService }

/-- R154: the notice state after channel n is retired from service. -/
def Notice.retired (x : Notice) (n : Fin 16) : Notice :=
  { x with inService := x.inService &&& ~~~ (BitVec.twoPow 16 n.val) }

/-- R156: the notice state after NTCFG. -/
def Notice.configured (x : Notice) (base : Nat) (enable : Bool) : Notice :=
  { x with base := base, enable := enable, inService := if enable then x.inService else 0 }

/-- R157: the notice state after the port's PORTRST. -/
def Notice.cleared (x : Notice) : Notice :=
  { x with pending := Vector.replicate 16 none, inService := 0 }

/-- R178: the pending channels as a 16-bit set. -/
def Notice.pendingBits (x : Notice) : Nat :=
  flagBits (channelsDown.reverse.map fun n => x.isPending n)

/-- R172: the code of a principal cause. -/
def principalCode : Option BreachCause → Nat
  | none => 0
  | some .barred => 1
  | some .range => 2
  | some .key => 3
  | some .wet => 4
  | some .heat => 5
  | some .moist => 6

/-- R172: the body of an NTFETCH reply for channel n with detail d, remaining channels counted after the fetch. -/
def fetchBody (base : Nat) (n : Fin 16) (d : Detail) (remaining : Nat) : List Byte :=
  byte1 n.val ++ byte1 (base * 16 + n.val) ++ flagByte [d.comps.c0, d.comps.c1, d.comps.c2]
    ++ flagByte [d.supplies.mains, d.supplies.steam, d.supplies.dryair]
    ++ byte1 (principalCode d.principal) ++ byte1 remaining

end Sys2Proof.Machine
end

