-- ==== Sys2Proof/Machine/Profiles.lean ====
section
/-! DEFINITION. The Profile Store (chapter 2): the current band of a compartment, what it forbids, the noted and
steamed marks, and the end of an in-force period. The rules for writing rows stand in Machine/Tables.lean. -/

namespace Sys2Proof.Machine

/-- R33: the index of the current band, by floor toward minus infinity and clamped to 0..7. -/
def bandIndex (base : Int) (width : Nat) (t : Int) : Fin 8 :=
  ⟨min 7 ((t - base) / (width : Int)).toNat, by omega⟩

/-- The BAND row of band b of profile p (R30). -/
def bandRow (p : Fin 16) (b : Fin 8) : Fin 128 := ⟨p.val * 8 + b.val, by omega⟩

/-- R33: the index of the compartment's current band, on its last T. -/
def State.curBandIndex (s : State) (c : Comp) : Fin 8 :=
  let prof := s.profile (s.comp c).profile
  bandIndex prof.bandBase prof.bandWidth (s.comp c).lastT

/-- R33: the BAND row of the compartment's current band. -/
def State.curBandRow (s : State) (c : Comp) : Fin 128 := bandRow (s.comp c).profile (s.curBandIndex c)

/-- R34: the key forbids the supply. -/
def BandKey.forbids : BandKey → Supply → Bool
  | .barred, .steam => true
  | .barred, .dryair => true
  | .airNote, .steam => true
  | .airOnly, .steam => true
  | _, _ => false

/-- R34: a use of the supply is noted under the key. -/
def BandKey.notes : BandKey → Supply → Bool
  | .airNote, .dryair => true
  | .bothNote, .steam => true
  | .bothNote, .dryair => true
  | .steamNote, .steam => true
  | _, _ => false

/-- R35: the humidity range of the band removes the supply: STEAM above an UP bound, DRYAIR below a DOWN bound. -/
def Band.rangeForbids (x : Band) (h : Nat) : Supply → Bool
  | .steam => x.direction == .up && x.hBound < h
  | .dryair => x.direction == .down && h < x.hBound
  | .mains => false

/-- R36: the envelope's causes for a supply: BARRED or KEY by the key, RANGE by the humidity range. -/
def envelopeCauses (s : State) (c : Comp) (sup : Supply) : HoldSet :=
  let b := s.band (s.curBandRow c)
  { HoldSet.none with
    barred := b.key.forbids sup && b.key == .barred
    key := b.key.forbids sup && b.key != .barred
    range := b.rangeForbids (s.comp c).lastH sup }

/-- R37, R38: marks the current band for an entry of the supply in force: noted flag and noted-use marker where the
key notes the supply, steamed flag for STEAM. -/
def markBand (c : Comp) (sup : Supply) (s : State) : State :=
  let row := s.curBandRow c
  let b := s.band row
  let notes := b.key.notes sup
  (s.setBand row { b with noted := b.noted || notes, steamed := b.steamed || sup == .steam }).modComp c
    fun x => { x with noted := x.noted || notes }

/-- R39: the in-force period of the compartment's entry of the supply ends. -/
def periodEnd (c : Comp) (sup : Supply) (s : State) : State :=
  if (s.comp c).noted then
    let s1 := s.modComp c fun x => { x with noted := false }
    if s1.config.notedNotices then post .noted (Detail.ofSupply (compsOne c) sup) s1 else s1
  else s

end Sys2Proof.Machine
end

