-- ==== Sys2Proof/Machine/Supply.lean ====
section
/-! DEFINITION. The Supply Allocator on the state (chapters 4 and 5): effective capacity, the pass with its signals and
its settling, the mains coupling, appending, withdrawing and amending entries, confirmation and its window. -/

namespace Sys2Proof.Machine

/-! ### Readings -/

/-- The entry a claimant holds in a list (R72: at most one). -/
def entryOf (entries : List Entry) (cl : Claimant) : Option Entry := entries.find? fun e => e.claimant == cl

/-- The entry a claimant holds on a supply. -/
def State.entry (s : State) (sup : Supply) (cl : Claimant) : Option Entry := entryOf (s.supply sup).entries cl

/-- R69: the in-force amount of a supplier's MAINS entry, 0 when it holds none. -/
def State.mainsInForce (s : State) (u : Supplier) : Nat :=
  match s.entry .mains (.supplier u) with
  | some e => e.inForce
  | none => 0

/-- R69: what the supplier's in-force mains can make, per 1000 W. -/
def State.perKw (s : State) : Supplier → Nat
  | .boiler => s.config.steamPerKw
  | .dryer => s.config.airPerKw

/-- R69: the effective capacity of a supplier's supply. -/
def State.fedCapacity (s : State) (u : Supplier) : Nat :=
  if (s.feeder u).silent ∨ s.standing u.port = .cut then 0
  else min (min (s.feeder u).reported (s.mainsInForce u * s.perKw u / 1000)) (supplyMax u.supply)

/-- R69: the effective capacity of a supply, from its inputs. -/
def State.capacityOf (s : State) (sup : Supply) : Nat :=
  match sup with
  | .mains => min (s.config.mainsCapacity - s.config.auxReserve) 9999
  | .steam => s.fedCapacity .boiler
  | .dryair => s.fedCapacity .dryer

/-- R85: the effective want of an entry: its min for STEAM while the CABINET port is LIMITED, its want otherwise. -/
def State.effectiveWant (s : State) (sup : Supply) (e : Entry) : Nat :=
  if sup = .steam ∧ s.standing .cabinet = .limited then e.min else e.want

/-! ### Signals to the sequencer (R12, R105) -/

/-- R12, R39: the compartment's entry went out of force: ACTIVE becomes WAITING, and the in-force period ends. -/
def signalOut (c : Comp) (sup : Supply) (s : State) : State :=
  let s1 := if (s.comp c).state = .active then s.modComp c fun x => { x with state := .waiting } else s
  periodEnd c sup s1

/-- R12, R37, R38: the compartment's entry came into force: WAITING becomes ACTIVE, and the current band is marked. -/
def signalIn (c : Comp) (sup : Supply) (s : State) : State :=
  let s1 := if (s.comp c).state = .waiting then s.modComp c fun x => { x with state := .active } else s
  markBand c sup s1

/-- The signals of one slot of a finished pass. -/
def signalSlot (sup : Supply) (s : State) (x : Slot) : State :=
  match x.entry.claimant with
  | .supplier _ => s
  | .comp c =>
    let s1 := if x.outOfForce then signalOut c sup s else s
    if x.intoForce then signalIn c sup s1 else s1

/-! ### The pass on the state -/

/-- The compartments of the slots a condition picks. -/
def slotComps (pick : Slot → Bool) (slots : List Slot) : PerComp Bool :=
  slots.foldl (fun acc x => if pick x then compsUnion acc x.entry.claimant.comps else acc) compsNone

/-- R149: the compartments a notice of a supply may name: none for MAINS. -/
def namedComps (sup : Supply) (x : PerComp Bool) : PerComp Bool := if sup = .mains then compsNone else x

/-- R90: the supply record after a pass: entries, grants, and, where an amount changed, the epoch, the
offer-outstanding flag and the window. -/
def settledRec (confirmWindow : Nat) (advance : Bool) (r : SupplyRec) (ps : PassState) : SupplyRec :=
  let entries := ps.slots.map fun x => x.entry
  let offers := entries.any fun e => e.offered.isSome
  if advance then
    { r with
      entries := entries
      grants := ps.grants
      epoch := r.epoch + 1
      offerOut := offers
      window := if offers then confirmWindow else 0 }
  else { r with entries := entries, grants := ps.grants }

/-- R85 to R90, R106: a pass of one supply, without the coupling of R91. force says that the event itself changed an
amount (a withdrawal, an amendment or an expired window), and changed names the compartments whose entries it changed
or withdrew. What counts as changed in the details of MAP and SHED: log 11. -/
def passOne (sup : Supply) (force : Bool) (changed : PerComp Bool) (s : State) : State :=
  let r := s.supply sup
  let ps := allocate r.effCap s.config.bench (s.effectiveWant sup) r.entries r.grants
  let advance := force || ps.slots.any fun x => x.touched
  let s1 := s.setSupply sup (settledRec s.config.confirmWindow advance r ps)
  let s2 := ps.slots.foldl (signalSlot sup) s1
  let s3 :=
    if advance then
      post (mapChannel sup)
        (Detail.ofSupply (namedComps sup (compsUnion changed (slotComps (fun x => x.touched) ps.slots))) sup) s2
    else s2
  if ps.slots.any fun x => x.shed then
    post .shed (Detail.ofSupply (namedComps sup (slotComps (fun x => x.shed) ps.slots)) sup) s3
  else s3

/-- R70: recomputes the effective capacity of a supply and, where it changes, runs a pass of it, without the coupling
of R91. -/
def recomputeOne (sup : Supply) (s : State) : State :=
  let cap := s.capacityOf sup
  if cap = (s.supply sup).effCap then s
  else passOne sup false compsNone (s.modSupply sup fun r => { r with effCap := cap })

/-- R91: the supplies whose supplier's in-force mains amount differs from before are recomputed, STEAM then DRYAIR
(log 15). -/
def couple (before s : State) : State :=
  let s1 := if s.mainsInForce .boiler ≠ before.mainsInForce .boiler then recomputeOne .steam s else s
  if s.mainsInForce .dryer ≠ before.mainsInForce .dryer then recomputeOne .dryair s1 else s1

/-- R85, R91: a pass of a supply with everything it calls for. before is the state before the event touched the
supply. -/
def runPass (sup : Supply) (force : Bool) (changed : PerComp Bool) (before s : State) : State :=
  match sup with
  | .mains => couple before (passOne .mains force changed s)
  | .steam => passOne .steam force changed s
  | .dryair => passOne .dryair force changed s

/-- R70: recomputes the effective capacity of a supply, with the pass and the coupling it calls for. -/
def recompute (sup : Supply) (s : State) : State :=
  match sup with
  | .mains => couple s (recomputeOne .mains s)
  | .steam => recomputeOne .steam s
  | .dryair => recomputeOne .dryair s

/-! ### Entries come and go -/

/-- R72: appends an entry at the tail of its list; a claimant that holds one already is given no second one. -/
def appendEntry (sup : Supply) (e : Entry) (s : State) : State :=
  if (s.entry sup e.claimant).isSome then s
  else runPass sup false compsNone s (s.modSupply sup fun r => { r with entries := r.entries ++ [e] })

/-- A supply record without a claimant's entry, which leaves the list and the grant order (R75). -/
def SupplyRec.without (r : SupplyRec) (cl : Claimant) : SupplyRec :=
  { r with
    entries := r.entries.filter fun e => e.claimant != cl
    grants := r.grants.filter (· != cl) }

/-- The end of an in-force period at a withdrawal: for a compartment's entry, by R39. -/
def withdrawnPeriod (sup : Supply) (e : Entry) (s : State) : State :=
  match e.claimant with
  | .comp c => if 0 < e.inForce then periodEnd c sup s else s
  | .supplier _ => s

/-- R75: withdraws a claimant's entry, if it holds one, with the pass that follows. -/
def withdraw (sup : Supply) (cl : Claimant) (s : State) : State :=
  match s.entry sup cl with
  | none => s
  | some e =>
    let s1 := withdrawnPeriod sup e (s.modSupply sup fun r => r.without cl)
    runPass sup (0 < e.inForce || e.offered.isSome) cl.comps s s1

/-- R70, R78, R80: a supplier loses its place: its MAINS entry is withdrawn and the effective capacity of its supply
is recomputed. -/
def supplierOut (u : Supplier) (s : State) : State :=
  recompute u.supply (withdraw .mains (.supplier u) s)

/-- Changes the entry of a claimant in place. -/
def SupplyRec.updateEntry (r : SupplyRec) (cl : Claimant) (f : Entry → Entry) : SupplyRec :=
  { r with entries := r.entries.map fun e => if e.claimant == cl then f e else e }

/-- R72: entries whose held amount is 0 leave the grant order. -/
def SupplyRec.pruneGrants (r : SupplyRec) : SupplyRec :=
  { r with grants := r.grants.filter fun cl =>
      match entryOf r.entries cl with
      | some e => e.held != 0
      | none => false }

/-- R74: a change of restraint of a standing entry, in place and followed by a pass; with no entry, nothing. -/
def restrain (sup : Supply) (cl : Claimant) (f : Entry → Entry) (s : State) : State :=
  if (s.entry sup cl).isSome then
    runPass sup false compsNone s (s.modSupply sup fun r => r.updateEntry cl f)
  else s

/-- R60, R74: the compartment becomes restrained: its standing entry stops preempting and keeps its code. -/
def restrainComp (c : Comp) (s : State) : State :=
  let mark (e : Entry) : Entry := { e with restrained := true }
  restrain .dryair (.comp c) mark (restrain .steam (.comp c) mark s)

/-- R73: the code of a supplier's MAINS entry, from its PORT priority and standing. -/
def State.supplierCode (s : State) (u : Supplier) : Nat :=
  (s.feeder u).priority * 2 + (if s.standing u.port = .limited then 1 else 0)

/-! ### Claims, amendments, offers -/

/-- R82: the entry after an amendment to min and want. -/
def Entry.amended (e : Entry) (min want : Nat) : Entry :=
  let inForce := if e.inForce = 0 then 0 else if e.inForce < min then 0 else Nat.min e.inForce want
  { e with min := min, want := want, offered := none, inForce := inForce }

/-- R81, R82: a supplier's claim on MAINS, appended or amended in place, with the pass that follows. -/
def claimMains (u : Supplier) (min want : Nat) (s : State) : State :=
  let cl := Claimant.supplier u
  match s.entry .mains cl with
  | none =>
    appendEntry .mains
      { claimant := cl
        code := s.supplierCode u
        restrained := s.standing u.port = .limited
        min := min
        want := want
        inForce := 0
        offered := none
        warm := false } s
  | some e =>
    let e' := e.amended min want
    runPass .mains (e.offered.isSome || e'.inForce != e.inForce) compsNone s
      (s.modSupply .mains fun r => (r.updateEntry cl fun _ => e').pruneGrants)

/-- R95, step 1 on an entry: its offered amount becomes its in-force amount. -/
def Entry.moved (e : Entry) : Entry :=
  match e.offered with
  | none => e
  | some o => { e with inForce := o, offered := none }

/-- R95, step 2 for one entry that moves. -/
def signalMove (sup : Supply) (s : State) (e : Entry) : State :=
  match e.claimant, e.offered with
  | .comp c, some _ => if e.inForce = 0 then signalIn c sup s else s
  | _, _ => s

/-- R94: the offer-outstanding flag and the window after a move: kept while an offer stands, else cleared and
stopped. -/
def SupplyRec.settleOffers (r : SupplyRec) : SupplyRec :=
  if r.entries.any fun e => e.offered.isSome then r else { r with offerOut := false, window := 0 }

/-- R97: a confirmation of STEAM or DRYAIR moves every offered amount into force. -/
def confirmFed (sup : Supply) (s : State) : State :=
  let es := (s.supply sup).entries
  let s1 := s.modSupply sup fun r =>
    { r with entries := r.entries.map Entry.moved, offerOut := false, window := 0 }
  let s2 := es.foldl (signalMove sup) s1
  let rose := es.foldl
    (fun acc e => if e.offered.isSome then compsUnion acc e.claimant.comps else acc) compsNone
  post (mapChannel sup) (Detail.ofSupply rose sup) s2

/-- R98: a confirmation of MAINS moves the sender's own offered amount into force. -/
def confirmMains (u : Supplier) (s : State) : State :=
  let s1 := s.modSupply .mains fun r => (r.updateEntry (.supplier u) Entry.moved).settleOffers
  let s2 := post .mainsmap (Detail.ofSupply compsNone .mains) s1
  couple s s2

/-- R101: the confirm window of a supply expires: the offers are dropped, EXPIRED is posted, and a pass that advances
the epoch in any case offers again. The duty faults are charged by windowExpiry (Machine/Timers.lean). -/
def expireOffers (sup : Supply) (s : State) : State :=
  let es := (s.supply sup).entries
  let dropped := es.foldl
    (fun acc e => if e.offered.isSome then compsUnion acc e.claimant.comps else acc) compsNone
  let s1 := s.modSupply sup fun r =>
    ({ r with window := 0, entries := r.entries.map fun e => { e with offered := none } } : SupplyRec).pruneGrants
  let s2 := post .expired (Detail.ofSupply (namedComps sup dropped) sup) s1
  runPass sup true dropped s s2

end Sys2Proof.Machine
end

