-- ==== Sys2Proof/Machine/Permission.lean ====
section
/-! DEFINITION. The Permission Evaluator (chapter 7): the permitted set and its causes, the breach test and the breach
record. What an evaluation does to the treatment is in Machine/Sequencer.lean. -/

namespace Sys2Proof.Machine

/-! ### Composing the permitted set (R125, R126) -/

/-- R125, R126: the causes that remove a supply from the compartment's permitted set. -/
def removalCauses (s : State) (c : Comp) (sup : Supply) : HoldSet :=
  let x := s.comp c
  { envelopeCauses s c sup with
    wet := sup == .steam && x.wet
    stale := x.report == .awaiting || x.report == .stale
    cut := s.standing .cabinet == .cut }

/-- The set holds no cause. -/
def HoldSet.isEmpty (x : HoldSet) : Bool := !(x.barred || x.key || x.range || x.wet || x.stale || x.cut)

/-- R125: a supply is permitted when no cause removes it, and STEAM only while moist_limited is clear. -/
def permits (s : State) (c : Comp) (sup : Supply) : Bool :=
  (removalCauses s c sup).isEmpty && !(sup == .steam && (s.comp c).moistLimited)

/-- R125: the permitted set of an evaluation. -/
def permittedNow (s : State) (c : Comp) : PermSet := ⟨permits s c .steam, permits s c .dryair⟩

/-! ### The breach record (R130, R133 to R137) -/

/-- R136: the principal cause, the highest ranked cause of a set. -/
def BreachSet.principal (x : BreachSet) : Option BreachCause :=
  if x.barred then some .barred
  else if x.range then some .range
  else if x.key then some .key
  else if x.wet then some .wet
  else if x.heat then some .heat
  else if x.moist then some .moist
  else Option.none

/-- R134: the causes of a breach among hold causes; STALE and CUT are not written. -/
def HoldSet.breachCauses (x : HoldSet) : BreachSet :=
  { BreachSet.none with barred := x.barred, range := x.range, key := x.key, wet := x.wet }

/-- R130: a cause of breach is among the hold causes. -/
def HoldSet.hasBreachCause (x : HoldSet) : Bool := x.barred || x.key || x.range || x.wet

/-- R134, R135: a breach arrives. A clear record is filled and frozen and BREACH is posted; a frozen one is marked
later. -/
def recordBreach (fill : Breach) (s : State) : State :=
  if s.breach.frozen then s.setBreach { s.breach with later := true }
  else
    post .breach
      { comps := (match fill.comp with
          | some c => compsOne c
          | none => compsNone)
        supplies := (match fill.supply with
          | some sup => suppliesOne sup
          | none => suppliesNone)
        principal := fill.causes.principal }
      (s.setBreach fill)

/-- R134: the breach record an evaluation fills. -/
def evaluationBreach (s : State) (c : Comp) (sup : Supply) : Breach :=
  let x := s.comp c
  let causes := removalCauses s c sup
  { frozen := true
    causes := causes.breachCauses
    comp := some c
    supply := some sup
    band := if causes.barred || causes.key || causes.range then some (s.curBandIndex c) else none
    t := x.lastT
    h := x.lastH
    w := x.lastW
    hd := x.hd
    md := x.md
    step := x.step
    later := false }

/-- R130: the evaluation judges a breach for the step's supply. -/
def judgesBreach (s : State) (c : Comp) (sup : Supply) : Bool :=
  (s.comp c).permitted.has sup && !permits s c sup && (removalCauses s c sup).hasBreachCause

/-- R130, R134: the breach test, against the set stored before this evaluation. -/
def breachTest (c : Comp) (sup : Supply) (s : State) : State :=
  if judgesBreach s c sup then recordBreach (evaluationBreach s c sup) s else s

/-- R124, R127: an evaluation stores the permitted set. -/
def storePermitted (c : Comp) (s : State) : State :=
  let set := permittedNow s c
  s.modComp c fun x => { x with permitted := set }

end Sys2Proof.Machine
end

