-- ==== Sys2Proof/Machine/Sequencer.lean ====
section
/-! DEFINITION. The Treatment Sequencer (chapter 1) with the consequences of a permission evaluation (R128, R129,
R131): step entry, running states, step end, treatment end, pause, resume, hold, release and the limit rules. -/

namespace Sys2Proof.Machine

/-! ### Entries of a compartment -/

/-- R7: withdraws the compartment's entry of its current step's supply, if one stands. -/
def withdrawComp (c : Comp) (s : State) : State :=
  match s.curSupply c with
  | none => s
  | some sup => withdraw sup (.comp c) s

/-- R11, R73: the code of an entry appended for the compartment. -/
def compCode (x : Context) (cls : Nat) : Nat := cls * 2 + (if x.restrained then 1 else 0)

/-- R11: the entry TSQ appends for the compartment's current step. -/
def stepEntry (x : Context) (c : Comp) (kind : StepKind) (claim : Claim) : Entry where
  claimant := .comp c
  code := compCode x claim.cls
  restrained := x.restrained
  min := claim.min
  want := claim.want
  inForce := 0
  offered := none
  warm := kind == .dry

/-- R11, R20, R21: the compartment becomes WAITING, its restart record is cleared, and an entry for its current step
joins the tail of its supply's list. -/
def claimSupply (c : Comp) (st : StepRec) (s : State) : State :=
  let s1 := s.modComp c fun x => { x with state := .waiting, restart := none }
  match st.kind.supply, st.claim with
  | some sup, some claim => appendEntry sup (stepEntry (s1.comp c) c st.kind claim) s1
  | _, _ => s1

/-! ### Hold (R21) -/

/-- The context as it enters HELD with the causes given: restart record with cause HOLD. -/
def Context.heldWith (x : Context) (causes : HoldSet) : Context :=
  { x with
    hold := causes
    restart := some ⟨x.step, x.stepUnits, x.stepPhase, .hold⟩
    state := .held }

/-- R21: the compartment enters HELD for its step's supply. -/
def enterHeld (c : Comp) (sup : Supply) (causes : HoldSet) (s : State) : State :=
  let s1 := withdraw sup (.comp c) s
  let s2 := s1.modComp c fun x => x.heldWith causes
  post .held (Detail.ofSupply (compsOne c) sup) s2

/-! ### Running state (R11, R20) -/

/-- R11: the first pause cause present, in the order PANEL, DOOR, MODE. -/
def PauseSet.first (x : PauseSet) : RestartCause :=
  if x.panel then .panel else if x.door then .door else .mode

/-- R11: the context as a step is entered with pause causes present. -/
def Context.enteredPaused (x : Context) : Context :=
  { x with state := .paused, restart := some ⟨x.step, 0, 0, x.pause.first⟩ }

/-- R11, R20: the current step takes its running state: PAUSED while a pause cause stands, ACTIVE for DWELL, WAITING
with an entry where its supply is permitted, HELD otherwise. The evaluation stores the permitted set and judges a
breach (R127, R130). -/
def takeRunningState (c : Comp) (s : State) : State :=
  if !(s.comp c).pause.isEmpty then s.modComp c Context.enteredPaused
  else
    match s.curStep c with
    | none => s
    | some st =>
      match st.kind.supply with
      | none => (storePermitted c s).modComp c fun x => { x with state := .active, restart := none }
      | some sup =>
        let ok := permits s c sup
        let causes := removalCauses s c sup
        let s1 := storePermitted c (breachTest c sup s)
        if ok then claimSupply c st s1 else enterHeld c sup causes s1

/-! ### Treatment end (R16) -/

/-- The context as its treatment ends with an outcome. -/
def Context.endedWith (x : Context) (o : TreatOutcome) : Context :=
  { x with pause := .none, hold := .none, outcome := o, state := .ended }

/-- R16: the treatment ends. last is the outcome the current step gets, where R15 has not written it already. -/
def endTreatment (c : Comp) (o : TreatOutcome) (last : Option StepOutcome) (s : State) : State :=
  let s1 := withdrawComp c s
  let s2 := match last with
    | none => s1
    | some l => s1.setStepOutcome c (s1.comp c).step l
  let s3 := s2.modComp c fun x => x.endedWith o
  post .stepend (Detail.ofComp c) (post .treatend (Detail.ofComp c) s3)

/-! ### Step entry (R10) -/

/-- R10: the context as step i is entered: timers and phases zeroed, MD_start set, restart record cleared. -/
def Context.entered (x : Context) (i : Nat) : Context :=
  { x with
    step := i
    stepUnits := 0
    stepPhase := 0
    capUnits := 0
    capPhase := 0
    mdStart := x.md
    restart := none }

/-- R10: a step of this kind is skipped on entry. -/
def Context.skips (x : Context) (k : StepKind) : Bool :=
  (x.heatLimited && k != .cool) || (x.moistLimited && k == .steam)

/-- R10: enters the first of the remaining steps, whose index is i, skipping those the limit flags forbid; past the
last one the treatment ends COMPLETE. -/
def enterFrom (c : Comp) : List StepRec → Nat → State → State
  | [], _, s => endTreatment c .complete none s
  | st :: rest, i, s =>
    let s1 := s.modComp c fun x => x.entered i
    if (s1.comp c).skips st.kind then
      enterFrom c rest (i + 1) (post .stepend (Detail.ofComp c) (s1.setStepOutcome c i .skipped))
    else takeRunningState c s1

/-- R10: enters step i of the compartment's plan. -/
def enterStep (c : Comp) (i : Nat) (s : State) : State := enterFrom c ((s.plan c).drop i) i s

/-! ### Step end (R15) -/

/-- R15, steps 1 to 3: the current step's entry is withdrawn, its outcome written and STEPEND posted; its hold causes
are emptied. -/
def closeStep (c : Comp) (o : StepOutcome) (s : State) : State :=
  let s1 := withdrawComp c s
  let s2 := s1.setStepOutcome c (s1.comp c).step o
  let s3 := s2.modComp c fun x => { x with hold := .none }
  post .stepend (Detail.ofComp c) s3

/-- R15: the current step ends and the next one is entered, or the treatment ends COMPLETE. -/
def endStep (c : Comp) (o : StepOutcome) (s : State) : State :=
  enterStep c ((s.comp c).step + 1) (closeStep c o s)

/-! ### Pause and resume (R19, R20) -/

/-- The context as it enters PAUSED for a cause: hold causes emptied, restart record written. -/
def Context.pausedFor (x : Context) (cause : RestartCause) : Context :=
  { x with
    hold := .none
    restart := some ⟨x.step, x.stepUnits, x.stepPhase, cause⟩
    state := .paused }

/-- R19: the pause causes of a running compartment became non-empty. -/
def enterPaused (c : Comp) (cause : RestartCause) (s : State) : State :=
  (withdrawComp c s).modComp c fun x => x.pausedFor cause

/-- Adds a pause cause to a running compartment: it is PAUSED by R19 unless it was PAUSED already. -/
def addPause (c : Comp) (cause : RestartCause) (f : PauseSet → PauseSet) (s : State) : State :=
  let was := (s.comp c).pause.isEmpty
  let s1 := s.modComp c fun x => { x with pause := f x.pause }
  if was then enterPaused c cause s1 else s1

/-- R20: the step's policy as the step is re-entered: REPEAT zeroes the step timer and sets MD_start. -/
def Context.reentered (x : Context) : Policy → Context
  | .continueStep => x
  | .repeatStep => { x with stepUnits := 0, stepPhase := 0, mdStart := x.md }

/-- The policy of the current step. -/
def State.curPolicy (s : State) (c : Comp) : Policy :=
  match s.curStep c with
  | some st => st.policy
  | none => .continueStep

/-- R20: the current step is resumed. -/
def resume (c : Comp) (s : State) : State :=
  let pol := s.curPolicy c
  takeRunningState c (s.modComp c fun x => x.reentered pol)

/-- Removes a pause cause from a running compartment: where the set becomes empty, the step is resumed by R20. -/
def removePause (c : Comp) (f : PauseSet → PauseSet) (s : State) : State :=
  let was := (s.comp c).pause.isEmpty
  let s1 := s.modComp c fun x => { x with pause := f x.pause }
  if !was && (s1.comp c).pause.isEmpty then resume c s1 else s1

/-! ### Evaluation (R127 to R131) -/

/-- R21, R129: a held step's supply is permitted again: the step is re-entered under its policy. -/
def release (c : Comp) (s : State) : State :=
  match s.curStep c with
  | none => s
  | some st =>
    claimSupply c st (s.modComp c fun x => { x.reentered st.policy with hold := .none })

/-- R128: an evaluation of a WAITING or ACTIVE compartment. -/
def evaluateRunning (c : Comp) (s : State) : State :=
  match s.curSupply c with
  | none => storePermitted c s
  | some sup =>
    if permits s c sup then storePermitted c s
    else
      let causes := removalCauses s c sup
      enterHeld c sup causes (storePermitted c (breachTest c sup s))

/-- R129: an evaluation of a HELD compartment. -/
def evaluateHeld (c : Comp) (s : State) : State :=
  match s.curSupply c with
  | none => storePermitted c s
  | some sup =>
    let causes := removalCauses s c sup
    if permits s c sup then release c (storePermitted c s)
    else (storePermitted c s).modComp c fun x => { x with hold := causes }

/-- R127 to R131: an evaluation of a compartment; one that is not running is not evaluated. -/
def evaluate (c : Comp) (s : State) : State :=
  match (s.comp c).state with
  | .waiting => evaluateRunning c s
  | .active => evaluateRunning c s
  | .held => evaluateHeld c s
  | .paused => storePermitted c s
  | .empty => s
  | .loaded => s
  | .ended => s

/-- R127: evaluates the running compartments a condition picks, in the order C0, C1, C2. -/
def evaluateAll (pick : Context → Bool) (s : State) : State :=
  Comp.all.foldl (fun s c => if s.running c && pick (s.comp c) then evaluate c s else s) s

/-! ### Limit crossings (R25, R26) -/

/-- The index of the first COOL step of a list whose first step has index i. -/
def firstCool : List StepRec → Nat → Option Nat
  | [], _ => none
  | st :: rest, i => if st.kind = .cool then some i else firstCool rest (i + 1)

/-- Marks the steps i to j − 1 of a plan SKIPPED. -/
def skipRange (plan : List StepRec) (i n : Nat) : List StepRec :=
  match n with
  | 0 => plan
  | n + 1 => skipRange (setOutcome plan i .skipped) (i + 1) n

/-- R25: the heat rule. -/
def heatRule (c : Comp) (s : State) : State :=
  let s1 := s.modComp c fun x => { x with heatLimited := true }
  match s1.curStep c with
  | none => s1
  | some st =>
    if st.kind = .cool then s1
    else
      let i := (s1.comp c).step
      let s2 := closeStep c .heatStop s1
      let plan := s2.plan c
      match firstCool (plan.drop (i + 1)) (i + 1) with
      | some j =>
        let s3 := s2.setPlan c (skipRange plan (i + 1) (j - (i + 1)))
        enterStep c j (if j = i + 1 then s3 else post .stepend (Detail.ofComp c) s3)
      | none =>
        let s3 := s2.setPlan c (skipRange plan (i + 1) (plan.length - (i + 1)))
        endTreatment c .heatLimit none s3

/-- R26: the moisture rule. The flag is set in any case; a treatment that the heat rule has just ended is not moved
(log 9). -/
def moistRule (c : Comp) (s : State) : State :=
  let s1 := s.modComp c fun x => { x with moistLimited := true }
  if s1.running c && s1.curSupply c == some .steam then
    enterStep c ((s1.comp c).step + 1) (closeStep c .moistStop s1)
  else s1

/-! ### End test of a report (R14) -/

/-- R14: the end condition of the current step is met by the report. -/
def endMet (s : State) (c : Comp) : Bool :=
  let x := s.comp c
  match s.curStep c with
  | none => false
  | some st =>
    match st.ending, st.target with
    | .moist, some target => target ≤ x.md - x.mdStart
    | .dryto, some target => x.lastH ≤ target
    | _, _ => false

/-- R14: tests the end condition of the current step in WAITING, ACTIVE and HELD. -/
def endTest (c : Comp) (s : State) : State :=
  let st := (s.comp c).state
  if (st == .waiting || st == .active || st == .held) && endMet s c then endStep c .done s else s

end Sys2Proof.Machine
end

