-- ==== Sys2Proof/Machine/Exposure.lean ====
section
/-! DEFINITION. The Exposure Accountant (chapter 3): the account of one accepted sensor report, the warn and limit
tests, and the order in which a report is carried through (R64). -/

namespace Sys2Proof.Machine

/-! ### The dose arithmetic (R51 to R57) -/

/-- R50, R51: dt of an accepted report of a running treatment. -/
def Context.interval (x : Context) : Nat :=
  if !x.baseline then 0
  else if x.report = .stale then Config.staleInterval
  else min x.watch Config.staleInterval

/-- R52: heat excess. -/
def heatExcess (prof : Profile) (t : Int) : Nat := (t - prof.tRef).toNat

/-- R52: moisture excess. -/
def moistExcess (prof : Profile) (h : Nat) : Nat := h - prof.hRef

/-- R54: the humidity factor F. -/
def humidityFactor (prof : Profile) (h : Nat) : Nat := if prof.hHot ≤ h then 24 else 16

/-- R54: ΔHD. -/
def heatIncrement (excess dt factor : Nat) : Nat := excess * dt * factor / 16

/-- R55: ΔMD. -/
def moistIncrement (excess dt : Nat) : Nat := excess * dt

/-- R49, R50: stores the clamped readings and the sequence number, makes the report state FRESH and sets the report
watch's count to 0. -/
def Context.stored (x : Context) (seq : Byte) (t : Int) (h w : Nat) : Context :=
  { x with lastT := t, lastH := h, lastW := w, lastSeq := some seq, report := .fresh, watch := 0 }

/-- R50 to R57: the account of an accepted report of a running treatment. A baseline report has dt = 0, so its
increments are 0 whatever the previous excesses. -/
def Context.accounted (x : Context) (prof : Profile) (seq : Byte) (t : Int) (h w : Nat) : Context :=
  let dt := x.interval
  let eT := heatExcess prof t
  let eH := moistExcess prof h
  let wet := prof.wMax < w
  { x.stored seq t h w with
    hd := min Config.doseTop (x.hd + heatIncrement (max x.prevHeat eT) dt (humidityFactor prof h))
    md := min Config.doseTop (x.md + moistIncrement (max x.prevMoist eH) dt)
    ws := if wet then min Config.wetTop (x.ws + dt) else x.ws
    wet := wet
    prevHeat := eT
    prevMoist := eH
    baseline := true }

/-! ### Warn and limit tests (R59 to R62) -/

/-- R59: a dose has reached the warn level of its limit and was not warned of before. -/
def warnDue (limit dose : Nat) (warned : Bool) : Bool := limit != 0 && !warned && warnLevel limit ≤ dose

/-- R61, R62: a dose has reached its limit and had not crossed it before. -/
def limitDue (limit dose : Nat) (limited : Bool) : Bool := limit != 0 && !limited && limit ≤ dose

/-- R59: the heat warn test. -/
def heatWarnTest (c : Comp) (prof : Profile) (s : State) : State :=
  let x := s.comp c
  if warnDue prof.hdLimit x.hd x.heatWarned then
    post .dosewarn (Detail.ofComp c) (s.modComp c fun x => { x with heatWarned := true })
  else s

/-- R59: the moisture warn test. -/
def moistWarnTest (c : Comp) (prof : Profile) (s : State) : State :=
  let x := s.comp c
  if warnDue prof.mdLimit x.md x.moistWarned then
    post .dosewarn (Detail.ofComp c) (s.modComp c fun x => { x with moistWarned := true })
  else s

/-- R59, R60: the warn tests, heat then moisture, and the restrained change if any. -/
def warnTests (c : Comp) (prof : Profile) (s : State) : State :=
  let s1 := moistWarnTest c prof (heatWarnTest c prof s)
  if !(s.comp c).restrained && (s1.comp c).restrained then restrainComp c s1 else s1

/-- R61, R135: the breach record a crossing fills, from the snapshot taken at the test. -/
def crossingBreach (s : State) (c : Comp) (heat moist : Bool) : Breach :=
  let x := s.comp c
  { frozen := true
    causes := { BreachSet.none with heat := heat, moist := moist }
    comp := some c
    supply := none
    band := none
    t := x.lastT
    h := x.lastH
    w := x.lastW
    hd := x.hd
    md := x.md
    step := x.step
    later := false }

/-- R61, R62, R64: the limit tests, heat then moisture. The crossings reach the Permission Evaluator together, as one
write (R135), and TSQ applies R25 and then R26. The write comes before TSQ moves the treatment (log 8). -/
def limitTests (c : Comp) (prof : Profile) (s : State) : State :=
  let x := s.comp c
  let heat := limitDue prof.hdLimit x.hd x.heatLimited
  let moist := limitDue prof.mdLimit x.md x.moistLimited
  let s1 := if heat || moist then recordBreach (crossingBreach s c heat moist) s else s
  let s2 := if heat then heatRule c s1 else s1
  if moist then moistRule c s2 else s2

/-! ### Band marking of a report (R37, R38) -/

/-- R37, R38: marks the current band for the compartment's entry in force, if there is one. -/
def markReport (c : Comp) (s : State) : State :=
  match s.curSupply c with
  | none => s
  | some sup =>
    match s.entry sup (.comp c) with
    | none => s
    | some e => if 0 < e.inForce then markBand c sup s else s

/-! ### One report (R47 to R50, R64) -/

/-- R49: an accepted report of a compartment that is not running. -/
def storeReport (c : Comp) (seq : Byte) (t : Int) (h w : Nat) (s : State) : State :=
  s.modComp c fun x => x.stored seq t h w

/-- R64, steps 2 to 7: an accepted report of a running treatment. -/
def accountReport (c : Comp) (seq : Byte) (t : Int) (h w : Nat) (s : State) : State :=
  let prof := s.profile (s.comp c).profile
  let s1 := s.modComp c fun x => x.accounted prof seq t h w
  let s2 := markReport c s1
  let s3 := warnTests c prof s2
  let s4 := limitTests c prof s3
  let s5 := endTest c s4
  evaluate c s5

/-- R48, R49, R64: a report with readings already clamped: none when it is a duplicate, else the state after it. -/
def takeReport (c : Comp) (seq : Byte) (t : Int) (h w : Nat) (s : State) : Option State :=
  if (s.comp c).lastSeq = some seq then none
  else if s.running c then some (accountReport c seq t h w s)
  else some (storeReport c seq t h w s)

end Sys2Proof.Machine
end

