-- ==== Sys2Proof/Machine/Standing.lean ====
section
/-! DEFINITION. The Standing Monitor (chapter 8): scoring the changes of one event and the consequences of a change of
standing. -/

namespace Sys2Proof.Machine

/-- R143: the supplies a STANDING notice names. -/
def standingSupplies : Port → PerSupply Bool
  | .boiler => suppliesOne .steam
  | .dryer => suppliesOne .dryair
  | .panel => suppliesNone
  | .cabinet => suppliesNone

/-- R143, R150: STANDING goes to the port concerned and to PANEL, once when they are the same. -/
def postStanding (p : Port) (s : State) : State :=
  let d : Detail := { Detail.none with supplies := standingSupplies p }
  let s1 := postTo p .standing d s
  if p = .panel then s1 else postTo .panel .standing d s1

/-- R74, R80, R143: the consequences of a supplier port's change of standing. -/
def supplierStanding (u : Supplier) (old new : Standing) (s : State) : State :=
  let cl := Claimant.supplier u
  match old, new with
  | .good, .limited => restrain .mains cl (fun e => { e with code := e.code + 1, restrained := true }) s
  | .limited, .good => restrain .mains cl (fun e => { e with code := e.code - 1, restrained := false }) s
  | _, .cut => supplierOut u s
  | .cut, _ => recompute u.supply s
  | .good, .good => s
  | .limited, .limited => s

/-- R85, R132, R143: the consequences of the CABINET port's change of standing: a STEAM pass between GOOD and LIMITED,
then an evaluation of every running compartment. -/
def cabinetStanding (old new : Standing) (s : State) : State :=
  let s1 :=
    match old, new with
    | .good, .limited => runPass .steam false compsNone s s
    | .limited, .good => runPass .steam false compsNone s s
    | _, _ => s
  evaluateAll (fun _ => true) s1

/-- R143: acts on a port's change of standing. -/
def standingChanged (p : Port) (old new : Standing) (s : State) : State :=
  let s1 := postStanding p s
  match p with
  | .panel => s1
  | .boiler => supplierStanding .boiler old new s1
  | .dryer => supplierStanding .dryer old new s1
  | .cabinet => cabinetStanding old new s1

/-- R143, R148: what one event hands the monitor for one port. In WATCH the fields are held; the mode that counts is
the one after the handling (log 12). -/
def scoreEvent (p : Port) (e : ScoreEvent) (s : State) : State :=
  if s.mode = .watch then s
  else
    let old := (s.score p).standing
    let x := (s.score p).after p e
    let s1 := s.setScore p x
    if x.standing = old then s1 else standingChanged p old x.standing s1

end Sys2Proof.Machine
end

