-- ==== Sys2Proof/Machine/Tables.lean ====
section
/-! DEFINITION. The Table Window (chapter 11): the pointer and its stepping (R174, R175), the read images (R178), the
write images (R177) and the rules for writing CONFIG, PORT, PROFILE and BAND rows (R40 to R44, R176, R177). -/

namespace Sys2Proof.Machine

/-! ### The pointer -/

/-- R175: a pointer stepped on by one part, or none where it would pass the last part of the table's last row. -/
def Pointer.stepped (x : Pointer) : Option Pointer :=
  if x.part + 1 < x.table.parts then some { x with part := x.part + 1 }
  else if x.row + 1 < x.table.rows then some { x with row := x.row + 1, part := 0 }
  else none

/-- R175, R176: the pointer an access of a kind acts at: stepped first after an access of the same kind. -/
def Pointer.forAccess (x : Pointer) (kind : LastAccess) : Option Pointer :=
  if x.last = kind then x.stepped else some x

/-- R174: spoils a port's pointer. Its table, row, part and last access are left as they stand: DESIGN CHOICE, log 5. -/
def spoil (p : Port) (s : State) : State := s.modPointer p fun x => { x with spoiled := true }

/-! ### Codes of the read images (R178) -/

def Standing.code : Standing → Nat
  | .good => 0
  | .limited => 1
  | .cut => 2

def StepKind.code : StepKind → Nat
  | .steam => 0
  | .dwell => 1
  | .dry => 2
  | .cool => 3

def TimeUnit.code : TimeUnit → Nat
  | .sec => 0
  | .ten => 1
  | .min => 2

def StepEnd.code : StepEnd → Nat
  | .wall => 0
  | .gated => 1
  | .moist => 2
  | .dryto => 3

def Policy.code : Policy → Nat
  | .continueStep => 0
  | .repeatStep => 1

def StepOutcome.code : StepOutcome → Nat
  | .notYet => 0
  | .done => 1
  | .capped => 2
  | .heatStop => 3
  | .moistStop => 4
  | .skipped => 5
  | .stopped => 6

def TreatState.code : TreatState → Nat
  | .empty => 0
  | .loaded => 1
  | .waiting => 2
  | .active => 3
  | .held => 4
  | .paused => 5
  | .ended => 6

def RestartCause.code : RestartCause → Nat
  | .panel => 0
  | .door => 1
  | .mode => 2
  | .hold => 3

def TreatOutcome.code : TreatOutcome → Nat
  | .notYet => 0
  | .complete => 1
  | .stopped => 2
  | .halted => 3
  | .heatLimit => 4
  | .doorTimeout => 5
  | .doorCount => 6

def ReportState.code : ReportState → Nat
  | .never => 0
  | .awaiting => 1
  | .fresh => 2
  | .stale => 3

def BandKey.code : BandKey → Nat
  | .barred => 0
  | .airNote => 1
  | .airOnly => 2
  | .bothNote => 3
  | .steamNote => 4
  | .openAll => 5

def Direction.code : Direction → Nat
  | .up => 0
  | .down => 1

def Claimant.code : Claimant → Nat
  | .comp .c0 => 0
  | .comp .c1 => 1
  | .comp .c2 => 2
  | .supplier .boiler => 3
  | .supplier .dryer => 4

/-- The number of a supply (R68). -/
def supplyCode : Supply → Nat
  | .mains => 0
  | .steam => 1
  | .dryair => 2

/-- The number of a compartment. -/
def compCodeOf : Comp → Nat
  | .c0 => 0
  | .c1 => 1
  | .c2 => 2

/-- R71: the state of an entry: 0 WAITING, 1 OFFERED, 2 IN_FORCE. -/
def Entry.stateCode (e : Entry) : Nat :=
  if e.offered.isSome then 1 else if 0 < e.inForce then 2 else 0

/-- R172: the state and code byte of an entry. -/
def Entry.stateByte (e : Entry) : Nat :=
  e.code % 16 + e.stateCode * 16 + (if e.restrained then 64 else 0) + (if e.warm then 128 else 0)

/-! ### Read images -/

/-- R177: the CONFIG image. -/
def configImage (x : ConfigRec) : List Byte :=
  byte2 x.mainsCapacity ++ byte2 x.auxReserve ++ byte1 x.steamPerKw ++ byte1 x.airPerKw
    ++ byte1 (x.confirmWindow * 16 + x.doorMax) ++ byte1 x.reportWatch ++ byte1 x.supplierWatch ++ byte2 x.doorLimit
    ++ flagByte [x.notedNotices, x.bench]
    ++ flagByte [x.caps.c0.steam, x.caps.c0.warm, x.caps.c1.steam, x.caps.c1.warm, x.caps.c2.steam, x.caps.c2.warm]

/-- The PORT priority of a port; 0 in rows 0 and 3 (R178). -/
def State.portPriority (s : State) (p : Port) : Nat :=
  match p.supplier with
  | some u => (s.feeder u).priority
  | none => 0

/-- R178: the PORT image. -/
def portImage (s : State) (p : Port) : List Byte :=
  let x := s.score p
  let n := s.notice p
  byte1 (s.portPriority p) ++ byte2 x.rfs ++ byte2 x.dfs ++ byte1 x.standing.code ++ byte1 x.readmission
    ++ byte2 n.mask.toNat ++ byte1 n.base ++ flagByte [n.enable] ++ byte2 n.pendingBits ++ byte2 n.inService.toNat

/-- R177: the PROFILE image, part 0 the references and limits, part 1 the rest. -/
def profileImage (x : Profile) (part : Nat) : List Byte :=
  if part = 0 then byteTemp x.tRef ++ byte2 x.hRef ++ byte3 x.hdLimit ++ byte3 x.mdLimit ++ byte1 x.wMax
  else flagByte [x.present, x.requires.steam, x.requires.warm] ++ byte2 x.hHot ++ byteTemp x.bandBase
    ++ byte1 x.bandWidth

/-- R177, R178: the BAND image. -/
def bandImage (x : Band) : List Byte :=
  byte1 x.key.code ++ byte1 x.direction.code ++ byte2 x.hBound ++ flagByte [x.noted, x.steamed]

/-- R178: the PLAN image of a step, or of an absent step. -/
def planImage : Option StepRec → List Byte
  | none => List.replicate 13 0
  | some st =>
    let cl := st.claim.getD ⟨0, 0, 0⟩
    byte1 1 ++ byte1 (st.kind.code * 64 + st.unit.code * 16 + st.ending.code * 4 + st.policy.code) ++ byte1 cl.cls
      ++ byte2 (st.duration.getD 0) ++ byte3 (st.target.getD 0) ++ byte2 (st.cap.getD 0) ++ byte1 cl.want
      ++ byte1 cl.min ++ byte1 st.lastOutcome.code

/-- R178: the CONTEXT image, part 0 the treatment and timers, part 1 the account and readings. -/
def contextImage (x : Context) (part : Nat) : List Byte :=
  if part = 0 then
    byte1 x.state.code ++ byte1 x.profile.val ++ byte1 x.step ++ flagByte [x.pause.panel, x.pause.door, x.pause.mode]
      ++ flagByte [x.hold.barred, x.hold.key, x.hold.range, x.hold.wet, x.hold.stale, x.hold.cut]
      ++ flagByte [x.heatLimited, x.moistLimited, x.doorOpen, x.noted, x.restart.isSome, x.permitted.steam,
          x.permitted.dryair]
      ++ byte1 x.doorCount ++ byte2 x.doorTimer ++ byte2 x.stepUnits ++ byte1 x.stepPhase ++ byte2 x.capUnits
      ++ byte1 x.capPhase ++ byte1 x.watch ++ byte3 x.mdStart
      ++ (match x.restart with
          | none => [0, 0, 0, 0, 0]
          | some r => byte1 r.step ++ byte2 r.elapsed ++ byte1 r.phase ++ byte1 r.cause.code)
      ++ byte1 x.outcome.code
  else
    byte3 x.hd ++ byte3 x.md ++ byte2 x.ws ++ byteTemp x.lastT ++ byte2 x.lastH ++ byte1 x.lastW ++ byte2 x.prevHeat
      ++ byte2 x.prevMoist ++ byte1 x.report.code ++ [x.lastSeq.getD 0]
      ++ flagByte [x.heatWarned, x.moistWarned, x.baseline, x.wet, x.lastSeq.isSome]

/-- R68: the reported capacity of a supply; that of MAINS is CONFIG mains_capacity. -/
def State.reportedCapacity (s : State) (sup : Supply) : Nat :=
  match sup.supplier with
  | some u => (s.feeder u).reported
  | none => s.config.mainsCapacity

/-- R68: the silent flag of a supply; clear for MAINS. -/
def State.silent (s : State) (sup : Supply) : Bool :=
  match sup.supplier with
  | some u => (s.feeder u).silent
  | none => false

/-- R178: the status watch count of a supply's supplier; 0 for MAINS. -/
def State.statusCount (s : State) (sup : Supply) : Nat :=
  match sup.supplier with
  | some u => (s.feeder u).watch
  | none => 0

/-- R178: the SUPPLY image. -/
def supplyImage (s : State) (sup : Supply) : List Byte :=
  let r := s.supply sup
  byte2 (s.reportedCapacity sup) ++ byte2 r.effCap ++ byte2 r.epoch.toNat ++ flagByte [r.offerOut, s.silent sup]
    ++ byte1 r.window ++ byte1 (s.statusCount sup)
    ++ (if sup = .mains then byte2 (s.feeder .boiler).draw ++ byte2 (s.feeder .dryer).draw else [0, 0, 0, 0])
    ++ byte1 r.entries.length

/-- R178: the ENTRY image of a slot of a supply, or of an absent entry. -/
def entryImage (r : SupplyRec) (slot : Nat) : List Byte :=
  match r.entries[slot]? with
  | none => List.replicate 12 0
  | some e =>
    byte1 1 ++ byte1 e.claimant.code ++ byte1 e.stateByte ++ byte2 e.min ++ byte2 e.want ++ byte2 e.inForce
      ++ byte2 (e.offered.getD 0) ++ byte1 (timeGranted r.grants e.claimant)

/-- R178: the BREACH image. -/
def breachImage (x : Breach) : List Byte :=
  flagByte [x.frozen, x.later]
    ++ flagByte [x.causes.barred, x.causes.range, x.causes.key, x.causes.wet, x.causes.heat, x.causes.moist]
    ++ byte1 (match x.comp with
        | some c => compCodeOf c
        | none => 0)
    ++ byte1 (match x.supply with
        | some sup => supplyCode sup
        | none => 0)
    ++ byte1 (match x.band with
        | some b => b.val
        | none => 0)
    ++ byteTemp x.t ++ byte2 x.h ++ byte1 x.w ++ byte3 x.hd ++ byte3 x.md ++ byte1 x.step

/-- The compartment of a row number, by its number. -/
def compRow (n : Nat) : Comp :=
  match n with
  | 0 => .c0
  | 1 => .c1
  | _ => .c2

/-- The supply of a row number, by its number. -/
def supplyRow (n : Nat) : Supply :=
  match n with
  | 0 => .mains
  | 1 => .steam
  | _ => .dryair

/-- The port of a row number, by its number. -/
def portRow (n : Nat) : Port :=
  match n with
  | 0 => .panel
  | 1 => .boiler
  | 2 => .dryer
  | _ => .cabinet

/-- R173, R178: the read image of the part at a pointer. -/
def readImage (s : State) (ptr : Pointer) : List Byte :=
  match ptr.table with
  | .config => configImage s.config
  | .port => portImage s (portRow ptr.row)
  | .profile => profileImage (s.profile (Fin.ofNat 16 ptr.row)) ptr.part
  | .band => bandImage (s.band (Fin.ofNat 128 ptr.row))
  | .plan => planImage (s.plan (compRow (ptr.row / 12)))[ptr.row % 12]?
  | .context => contextImage (s.comp (compRow ptr.row)) ptr.part
  | .supply => supplyImage s (supplyRow ptr.row)
  | .entry => entryImage (s.supply (supplyRow (ptr.row / 3))) (ptr.row % 3)
  | .breach => breachImage s.breach

/-! ### Writing rows -/

/-- R177: the CONFIG record a write image gives, each field clamped to its range. -/
def configOfImage : List Byte → Option ConfigRec
  | [m1, m0, a1, a0, spk, apk, win, rw, sw, d1, d0, opt, caps] =>
    some
      { mainsCapacity := clampNat 0 9999 (half m1 m0).toNat
        auxReserve := clampNat 0 2000 (half a1 a0).toNat
        steamPerKw := clampNat 1 60 spk.toNat
        airPerKw := clampNat 1 100 apk.toNat
        confirmWindow := clampNat 1 15 (win.toNat / 16)
        reportWatch := clampNat 2 60 rw.toNat
        supplierWatch := clampNat 2 60 sw.toNat
        doorLimit := clampNat 10 600 (half d1 d0).toNat
        doorMax := clampNat 1 15 (win.toNat % 16)
        notedNotices := bitOf opt 0
        bench := bitOf opt 1
        caps := ⟨⟨bitOf caps 0, bitOf caps 1⟩, ⟨bitOf caps 2, bitOf caps 3⟩, ⟨bitOf caps 4, bitOf caps 5⟩⟩ }
  | _ => none

/-- R177, R70: a CONFIG write, with the recomputations of the effective capacities, in the order of log 15. -/
def writeConfig (cfg : ConfigRec) (s : State) : State :=
  recompute .dryair (recompute .steam (recompute .mains (s.setConfig cfg)))

/-- R28, R177: profile part 0 of a write image over the stored row, clamped. -/
def profilePart0 (old : Profile) : List Byte → Option Profile
  | [t1, t0, h1, h0, hd2, hd1, hd0, md2, md1, md0, w] =>
    some
      { old with
        tRef := clampTemp (half t1 t0)
        hRef := clampHumidity (half h1 h0)
        hdLimit := (tri hd2 hd1 hd0).toNat
        mdLimit := (tri md2 md1 md0).toNat
        wMax := w.toNat }
  | _ => none

/-- R28, R177: profile part 1 of a write image over the stored row, clamped; none where the flags byte holds an
undefined requires code. -/
def profilePart1 (old : Profile) : List Byte → Option Profile
  | [flags, hh1, hh0, b1, b0, width] =>
    (profileFlagsOf flags).map fun (present, requires) =>
      { old with
        present := present
        requires := requires
        hHot := clampNat 0 1001 (half hh1 hh0).toNat
        bandBase := clampTemp (half b1 b0)
        bandWidth := clampNat 10 200 width.toNat }
  | _ => none

/-- R28, R177: the profile row a write image gives over the stored row. -/
def profileOfImage (old : Profile) (part : Nat) (img : List Byte) : Option Profile :=
  if part = 0 then profilePart0 old img else profilePart1 old img

/-- R42: the rank of a dose limit, 0 counted above every other value. -/
def limitRank (n : Nat) : Nat := if n = 0 then Config.doseTop + 1 else n

/-- R42: a written row over the stored row of a profile in use, with its tightening changes alone. -/
def Profile.tightened (old new : Profile) : Profile :=
  { old with
    hdLimit := if limitRank new.hdLimit < limitRank old.hdLimit then new.hdLimit else old.hdLimit
    mdLimit := if limitRank new.mdLimit < limitRank old.mdLimit then new.mdLimit else old.mdLimit
    wMax := min old.wMax new.wMax }

/-- The rank of a key toward BARRED (R43). -/
def BandKey.rank : BandKey → Nat
  | .openAll => 0
  | .steamNote => 1
  | .bothNote => 2
  | .airOnly => 3
  | .airNote => 4
  | .barred => 5

/-- R30, R177: the band row a write image gives over the stored row, its flags as stored. -/
def bandOfImage (old : Band) : List Byte → Option Band
  | [k, d, h1, h0, _] =>
    match keyOf k, directionOf d with
    | some key, some direction =>
      some { old with key := key, direction := direction, hBound := clampHumidity (half h1 h0) }
    | _, _ => none
  | _ => none

/-- R43: a written row over the stored row of a band of a profile in use, with its tightening changes alone. -/
def Band.tightened (old new : Band) : Band :=
  { old with
    key := if old.key.rank < new.key.rank then new.key else old.key
    hBound :=
      match old.direction with
      | .up => min old.hBound new.hBound
      | .down => max old.hBound new.hBound }

/-- R40: a row written over a stored one has its flags cleared when it changed. -/
def Band.written (old new : Band) : Band :=
  if new = old then old else { new with noted := false, steamed := false }

/-- What a TBLWR that reached its row did: the state, and whether R42 or R43 kept a field. -/
structure Written where
  state : State
  kept : Bool

/-- R41, R42, R44: writes a profile row. -/
def writeProfile (i : Fin 16) (new : Profile) (s : State) : Written :=
  let old := s.profile i
  if s.mode ≠ .setup ∧ s.profileInUse i then
    let row := old.tightened new
    let s1 := s.setProfile i row
    { state := if row = old then s1 else evaluateAll (fun x => x.profile == i) s1
      kept := row != new }
  else { state := s.setProfile i new, kept := false }

/-- R40, R41, R43, R44: writes a band row. -/
def writeBand (row : Fin 128) (new : Band) (s : State) : Written :=
  let old := s.band row
  let prof : Fin 16 := Fin.ofNat 16 (row.val / 8)
  if s.mode ≠ .setup ∧ s.profileInUse prof then
    let tight := old.tightened new
    let s1 := s.setBand row (old.written tight)
    { state := if tight = old then s1 else evaluateAll (fun x => x.profile == prof) s1
      kept := tight != new }
  else { state := s.setBand row (old.written new), kept := false }

/-- R176, step 3: the tables TBLWR may write. -/
def Table.writable : Table → Bool
  | .config => true
  | .port => true
  | .profile => true
  | .band => true
  | .plan => false
  | .context => false
  | .supply => false
  | .entry => false
  | .breach => false

/-- R176, step 5: the rows of writable tables that are fixed. -/
def fixedRow (ptr : Pointer) : Bool :=
  match ptr.table with
  | .port => ptr.row == 0 || ptr.row == 3
  | .profile => ptr.row == 0
  | .band => ptr.row < 8
  | _ => false

/-- R177: the record length of the write image for a table and part; 0 for a table that is not written. -/
def writeLength (ptr : Pointer) : Nat :=
  match ptr.table with
  | .config => 16
  | .port => 4
  | .profile => if ptr.part = 0 then 14 else 9
  | .band => 8
  | _ => 0

/-- R176, step 7 and the writing itself: none where a code field holds no defined code. -/
def writePart (ptr : Pointer) (img : List Byte) (s : State) : Option Written :=
  match ptr.table with
  | .config => (configOfImage img).map fun cfg => ⟨writeConfig cfg s, false⟩
  | .port =>
    match img, (portRow ptr.row).supplier with
    | [pri], some u => some ⟨s.modFeeder u fun x => { x with priority := clampNat 0 7 pri.toNat }, false⟩
    | _, _ => none
  | .profile =>
    let i := Fin.ofNat 16 ptr.row
    (profileOfImage (s.profile i) ptr.part img).map fun new => writeProfile i new s
  | .band =>
    let i := Fin.ofNat 128 ptr.row
    (bandOfImage (s.band i) img).map fun new => writeBand i new s
  | _ => none

end Sys2Proof.Machine
end

