-- ==== Sys2Proof/Machine/Requests.lean ====
section
/-! DEFINITION. What the owning block does with each request that passed the checks of R166: its own checks in order,
its effect, its reply status and body, and what it hands the Standing Monitor. -/

namespace Sys2Proof.Machine

/-- The answer of an owning block to one request. -/
structure Answer where
  status : Status
  body : List Byte
  /-- A clean duty message of the sender (R142). -/
  clean : Bool
  /-- A duty fault of the sender (R141). -/
  duty : Bool
  state : State

/-- An answer without a body or a duty effect. -/
def answer (st : Status) (s : State) : Answer := ⟨st, [], false, false, s⟩

/-- An answer OK with a body. -/
def answerBody (body : List Byte) (s : State) : Answer := ⟨.ok, body, false, false, s⟩

/-- A request named a compartment: 0..2, else RANGE. -/
def withComp (c : Byte) (s : State) (f : Comp → Answer) : Answer :=
  match compOf c with
  | none => answer .range s
  | some k => f k

/-! ### Plans and treatments -/

/-- R5: PLNCLR(c). -/
def doPlnclr (c : Byte) (s : State) : Answer :=
  withComp c s fun k =>
    if s.running k then answer .busy s
    else answer .ok ((s.setPlan k []).modComp k fun x => { x with state := .empty })

/-- R3, R4: the duration of an appended step; none where a present field lies outside its range. -/
def fieldOf (isPresent : Bool) (lo hi n : Nat) : Option (Option Nat) :=
  if isPresent then (if lo ≤ n ∧ n ≤ hi then some (some n) else none) else some none

/-- R3: the target of a step with this end condition. -/
def targetOf (e : StepEnd) (n : Nat) : Option (Option Nat) :=
  match e with
  | .moist => fieldOf true 1 Config.doseTop n
  | .dryto => fieldOf true 0 1000 n
  | .wall => some none
  | .gated => some none

/-- R4, checks 6 and 7: the claim of a step of a kind that draws a supply, its want clamped to the supply maximum. -/
def claimOf (kind : StepKind) (cls want min : Nat) : Option (Option Claim) :=
  match kind.supply with
  | none => some none
  | some sup =>
    let w := Nat.min want (supplyMax sup)
    if cls ≤ 7 ∧ 1 ≤ want ∧ 1 ≤ min ∧ min ≤ w then some (some ⟨cls, w, min⟩) else none

/-- R3, R4: the step record of a PLNADD body; none where a check refuses it RANGE. -/
def stepOf (codes cls : Byte) (duration : Half) (target : Tri) (cap : Half) (want min : Byte) : Option StepRec :=
  let kind := kindOfCodes codes
  let ending := endOfCodes codes
  match unitOfCodes codes with
  | none => none
  | some unit =>
    if !legalEnd kind ending then none
    else
      match fieldOf (ending == .wall || ending == .gated) 1 65535 duration.toNat,
          targetOf ending target.toNat, fieldOf (ending != .wall) 1 65535 cap.toNat,
          claimOf kind cls.toNat want.toNat min.toNat with
      | some d, some t, some k, some cl =>
        some
          { kind := kind
            unit := unit
            ending := ending
            duration := d
            target := t
            cap := k
            policy := policyOfCodes codes
            claim := cl
            lastOutcome := .notYet }
      | _, _, _, _ => none

/-- R4: PLNADD(c, step). -/
def doPlnadd (c codes cls : Byte) (duration : Half) (target : Tri) (cap : Half) (want min : Byte) (s : State) :
    Answer :=
  withComp c s fun k =>
    if s.running k then answer .busy s
    else if Config.planSteps ≤ (s.plan k).length then answer .full s
    else
      match stepOf codes cls duration target cap want min with
      | none => answer .range s
      | some st =>
        answer .ok ((s.setPlan k (s.plan k ++ [st])).modComp k fun x =>
          { x with state := if x.state = .empty then .loaded else x.state })

/-- R31: a capability set holds every member of a requires set. -/
def Caps.covers (caps requires : Caps) : Bool := (!requires.steam || caps.steam) && (!requires.warm || caps.warm)

/-- R6, R31: BIND(c, p). -/
def doBind (c prof : Byte) (s : State) : Answer :=
  withComp c s fun k =>
    if s.running k then answer .busy s
    else if prof.toNat = 0 then answer .ok (s.modComp k fun x => { x with profile := 0 })
    else if 15 < prof.toNat then answer .range s
    else
      let i : Fin 16 := Fin.ofNat 16 prof.toNat
      if !(s.profile i).present then answer .absent s
      else if !(s.config.caps.get k).covers (s.profile i).requires then answer .unsuited s
      else answer .ok (s.modComp k fun x => { x with profile := i })

/-- R8: the capabilities of a compartment allow a step kind. -/
def Caps.allows (caps : Caps) : StepKind → Bool
  | .steam => caps.steam
  | .dry => caps.warm
  | .cool => true
  | .dwell => true

/-- R9, R67, R116, R117, R124: the context an accepted TSTART prepares. -/
def Context.started (x : Context) : Context :=
  { x with
    hd := 0
    md := 0
    ws := 0
    heatWarned := false
    moistWarned := false
    heatLimited := false
    moistLimited := false
    outcome := .notYet
    doorCount := 0
    restart := none
    noted := false
    report := .awaiting
    watch := 0
    baseline := false
    wet := false
    permitted := .none
    hold := .none
    pause := { PauseSet.none with door := x.doorOpen }
    doorTimer := 0 }

/-- R8, R9: TSTART(c). -/
def doTstart (c : Byte) (s : State) : Answer :=
  withComp c s fun k =>
    let x := s.comp k
    if s.mode ≠ .service then answer .mode s
    else if s.running k then answer .busy s
    else if x.profile = 0 then answer .unbound s
    else if !(s.profile x.profile).present then answer .absent s
    else if (s.plan k).isEmpty then answer .emptyPlan s
    else if !(s.plan k).all fun st => (s.config.caps.get k).allows st.kind then answer .unsuited s
    else
      let s1 := s.setPlan k ((s.plan k).map fun st => { st with lastOutcome := .notYet })
      answer .ok (enterStep k 0 (s1.modComp k Context.started))

/-- R18: TPAUSE(c). -/
def doTpause (c : Byte) (s : State) : Answer :=
  withComp c s fun k =>
    if !s.running k then answer .state s
    else answer .ok (addPause k .panel (fun x => { x with panel := true }) s)

/-- R18: TRESUME(c). -/
def doTresume (c : Byte) (s : State) : Answer :=
  withComp c s fun k =>
    if !s.running k then answer .state s
    else answer .ok (removePause k (fun x => { x with panel := false }) s)

/-- R17: TSTOP(c). -/
def doTstop (c : Byte) (s : State) : Answer :=
  withComp c s fun k =>
    if !s.running k then answer .state s
    else answer .ok (endTreatment k .stopped (some .stopped) s)

/-- R137: BRKCLR. -/
def doBrkclr (s : State) : Answer :=
  if s.breach.frozen then answer .ok (s.setBreach .clear) else answer .nothing s

/-! ### Sensors and doors -/

/-- R47, R48, R66: SENSREP(c, seq, T, H, W). -/
def doSensrep (c seq : Byte) (t h : Half) (w : Byte) (s : State) : Answer :=
  withComp c s fun k =>
    match takeReport k seq (clampTemp t) (clampHumidity h) w.toNat s with
    | none => answer .dup s
    | some s' => { answer .ok s' with clean := true }

/-- R23: a door opening. -/
def doorOpened (k : Comp) (s : State) : State :=
  if (s.comp k).doorOpen then s
  else if !s.running k then s.modComp k fun x => { x with doorOpen := true }
  else
    let s1 := s.modComp k fun x => { x with doorOpen := true, doorCount := x.doorCount + 1, doorTimer := 0 }
    let s2 := post .door (Detail.ofComp k) s1
    if s2.config.doorMax ≤ (s2.comp k).doorCount then
      endTreatment k .doorCount (some .stopped)
        (s2.modComp k fun x => { x with pause := { x.pause with door := true } })
    else addPause k .door (fun x => { x with door := true }) s2

/-- R24: a door closing. -/
def doorClosed (k : Comp) (s : State) : State :=
  if !(s.comp k).doorOpen then s
  else if !s.running k then s.modComp k fun x => { x with doorOpen := false }
  else
    removePause k (fun x => { x with door := false })
      (s.modComp k fun x => { x with doorOpen := false, doorTimer := 0 })

/-- R23, R24, R166: DOORREP(c, state); a door state other than the two codes is refused RANGE after the compartment
check. -/
def doDoorrep (c door : Byte) (s : State) : Answer :=
  withComp c s fun k =>
    match doorOf door with
    | none => answer .range s
    | some true => answer .ok (doorOpened k s)
    | some false => answer .ok (doorClosed k s)

/-! ### Supplies -/

/-- A request only a supplier port may send reached its owning block. R166 has refused every other port ROLE. -/
def withSupplier (p : Port) (s : State) (f : Supplier → Answer) : Answer :=
  match p.supplier with
  | none => answer .role s
  | some u => f u

/-- R76, R77: SUPREP(capacity, draw). -/
def doSuprep (p : Port) (capacity : Byte) (draw : Half) (s : State) : Answer :=
  withSupplier p s fun u =>
    let cap := min capacity.toNat (supplyMax u.supply)
    if s.mode = .setup then answer .ok (s.modFeeder u fun x => { x with reported := cap })
    else
      let s1 := s.modFeeder u fun x =>
        { x with reported := cap, draw := draw.toNat, watch := 0, silent := false }
      let bad := overdraw draw.toNat (s1.mainsInForce u)
      { answer .ok (recompute u.supply s1) with clean := !bad, duty := bad }

/-- R79, R81, R82: PWRREQ(min, want). -/
def doPwrreq (p : Port) (min want : Half) (s : State) : Answer :=
  withSupplier p s fun u =>
    if s.mode ≠ .service then answer .mode s
    else if min.toNat < 1 ∨ 9999 < min.toNat then answer .range s
    else if (s.feeder u).silent then answer .state s
    else answer .ok (claimMains u min.toNat (max min.toNat (Nat.min want.toNat 9999)) s)

/-- R83: PWRREL. -/
def doPwrrel (p : Port) (s : State) : Answer :=
  withSupplier p s fun u =>
    if (s.entry .mains (.supplier u)).isSome then answer .ok (withdraw .mains (.supplier u) s)
    else answer .nothing s

/-- R96: the supply is the supplier's to confirm. -/
def mayConfirm (u : Supplier) (sup : Supply) : Bool := sup == .mains || sup == u.supply

/-- R96, check 5: an offered amount stands that the sender may confirm. -/
def offerStands (s : State) (u : Supplier) (sup : Supply) : Bool :=
  match sup with
  | .mains =>
    match s.entry .mains (.supplier u) with
    | some e => e.offered.isSome
    | none => false
  | .steam => (s.supply .steam).entries.any fun e => e.offered.isSome
  | .dryair => (s.supply .dryair).entries.any fun e => e.offered.isSome

/-- R96 to R99, R107: CONFIRM(supply, epoch). -/
def doConfirm (p : Port) (sup : Byte) (epoch : Half) (s : State) : Answer :=
  withSupplier p s fun u =>
    match supplyOf sup with
    | none => answer .range s
    | some k =>
      if !mayConfirm u k then answer .role s
      else if s.config.bench then answer .nothing s
      else if epoch ≠ (s.supply k).epoch then answer .oldEpoch s
      else if !offerStands s u k then answer .nothing s
      else
        let s1 := match k with
          | .mains => confirmMains u s
          | .steam => confirmFed .steam s
          | .dryair => confirmFed .dryair s
        { answer .ok s1 with clean := true }

/-- R84: MAINSSET(W). -/
def doMainsset (w : Half) (s : State) : Answer :=
  answer .ok (recompute .mains (s.setConfig { s.config with mainsCapacity := min w.toNat 9999 }))

/-- R172: the part of an ALLOCRD reply for one entry. -/
def entryPart (e : Entry) : List Byte :=
  byte1 e.claimant.code ++ byte1 e.stateByte ++ byte2 e.inForce ++ byte2 (e.offered.getD 0)

/-- R108, R172: the body of an ALLOCRD reply. -/
def allocBody (s : State) (sup : Supply) : List Byte :=
  let r := s.supply sup
  byte1 (supplyCode sup) ++ byte2 r.epoch.toNat ++ byte2 r.effCap ++ flagByte [r.offerOut, s.silent sup]
    ++ byte1 r.window ++ byte1 r.entries.length ++ r.entries.flatMap entryPart

/-- R108: ALLOCRD(supply). -/
def doAllocrd (sup : Byte) (s : State) : Answer :=
  match supplyOf sup with
  | none => answer .range s
  | some k => answerBody (allocBody s k) s

/-! ### Tables -/

/-- R174: TBLPTR(table, row). -/
def doTblptr (p : Port) (table row : Byte) (s : State) : Answer :=
  match tableOf table with
  | none => answer .range (spoil p s)
  | some t =>
    if t.rows ≤ row.toNat then answer .range (spoil p s)
    else answer .ok (s.setPointer p { table := t, row := row.toNat, part := 0, last := .never, spoiled := false })

/-- R175: TBLRD. -/
def doTblrd (p : Port) (s : State) : Answer :=
  let ptr := s.pointer p
  if ptr.spoiled then answer .pointer s
  else
    match ptr.forAccess .read with
    | none => answer .pointer (spoil p s)
    | some at' => answerBody (readImage s at') (s.setPointer p { at' with last := .read })

/-- R176: TBLWR. Refused at step 3 or later after a step, it spoils the pointer at the row and part where it stood before
that step: DESIGN CHOICE, log 5. -/
def doTblwr (p : Port) (image : List Byte) (s : State) : Answer :=
  let ptr := s.pointer p
  if ptr.spoiled then answer .pointer s
  else
    match ptr.forAccess .write with
    | none => answer .pointer (spoil p s)
    | some at' =>
      if !at'.table.writable then answer .state (spoil p s)
      else if (at'.table = .config ∨ at'.table = .port) ∧ s.mode ≠ .setup then answer .mode (spoil p s)
      else if fixedRow at' then answer .state (spoil p s)
      else if image.length + 3 ≠ writeLength at' then answer .range (spoil p s)
      else
        match writePart at' image s with
        | none => answer .range (spoil p s)
        | some w =>
          answer (if w.kept then .part else .ok) (w.state.setPointer p { at' with last := .write })

/-! ### Notices -/

/-- R153: NTFETCH. -/
def doNtfetch (p : Port) (s : State) : Answer :=
  let x := s.notice p
  match x.highest with
  | none => answer .nothing s
  | some n =>
    let s1 := s.updateNotice p fun x => x.fetched n
    answerBody (fetchBody x.base n ((x.pending.get n).getD Detail.none) (s1.notice p).readyCount) s1

/-- R154: NTDONE(ch). -/
def doNtdone (p : Port) (ch : Byte) (s : State) : Answer :=
  if h : ch.toNat < 16 then
    if (s.notice p).inService.getLsbD ch.toNat then
      answer .ok (s.updateNotice p fun x => x.retired ⟨ch.toNat, h⟩)
    else answer .nothing s
  else answer .range s

/-- R155: NTMASK(set). -/
def doNtmask (p : Port) (mask : Half) (s : State) : Answer :=
  answer .ok (s.updateNotice p fun x => { x with mask := mask })

/-- R156, R171: NTCFG(base, enable); 0x00 is off, any other value on. -/
def doNtcfg (p : Port) (base enable : Byte) (s : State) : Answer :=
  if 15 < base.toNat then answer .range s
  else answer .ok (s.updateNotice p fun x => x.configured base.toNat (enable != 0))

/-! ### Mode and initialisation -/

/-- R92: SAL withdraws the supplier ports' MAINS entries, BOILER then DRYER (log 6). -/
def withdrawSuppliers (s : State) : State :=
  withdraw .mains (.supplier .dryer) (withdraw .mains (.supplier .boiler) s)

/-- Acts on each running compartment, in the order C0, C1, C2 (R72, R127). -/
def eachRunning (f : Comp → State → State) (s : State) : State :=
  Comp.all.foldl (fun s c => if s.running c then f c s else s) s

/-- R120: sets both status watches to 0. -/
def zeroStatusWatches (s : State) : State :=
  (s.modFeeder .boiler fun x => { x with watch := 0 }).modFeeder .dryer fun x => { x with watch := 0 }

/-- R27, R92, R120, R179: what an accepted change of mode does, the new mode being written already. -/
def modeChange (old new : Mode) (s : State) : State :=
  match old, new with
  | .setup, .setup => s
  | .watch, .watch => s
  | .service, .service => s
  | _, .setup =>
    zeroStatusWatches (withdrawSuppliers (eachRunning (fun c => endTreatment c .halted (some .stopped)) s))
  | .service, .watch =>
    withdrawSuppliers (eachRunning (fun c => addPause c .mode fun x => { x with mode := true }) s)
  | .watch, .service => eachRunning (fun c => removePause c fun x => { x with mode := false }) s
  | .setup, _ => zeroStatusWatches s

/-- R179: MODESET(mode). -/
def doModeset (mode : Byte) (s : State) : Answer :=
  match modeOf mode with
  | none => answer .range s
  | some m =>
    if m = s.mode then answer .ok s
    else if s.mode = .setup ∧ m = .service ∧ s.config.mainsCapacity ≤ s.config.auxReserve then answer .state s
    else answer .ok (post .mode Detail.none (modeChange s.mode m (s.setMode m)))

/-- R160, R168: the reply at the head of the outbound queue is partly clocked out: a byte of it has left, or bits of its
next byte have been clocked out, in this window or in one that closed within the byte (log 13). -/
def Cpi.partlyOut (x : Cpi) : Bool := x.begun || x.sent != 0

/-- R168 step 1, R169: the CPI's queues emptied, but for a reply partly clocked out. -/
def Cpi.emptied (x : Cpi) : Cpi :=
  { x with inbound := [], outbound := if x.partlyOut then x.outbound.take 1 else [] }

/-- R180: the part after REINIT, before its reply: the power-on values, but for CONFIG, the PORT priorities, the
PROFILE and BAND tables, the CPIs as R169 gives, and the queue of commands. -/
def reinitialised (s : State) : State :=
  { State.reset with
    config := s.config
    profiles := s.profiles
    bands := s.bands
    supplies :=
      ⟨.powerOn (min (s.config.mainsCapacity - s.config.auxReserve) 9999), .powerOn 0, .powerOn 0⟩
    feeders := ⟨.powerOn s.feeders.boiler.priority, .powerOn s.feeders.dryer.priority⟩
    cpis := ⟨s.cpis.panel.emptied, s.cpis.boiler.emptied, s.cpis.dryer.emptied, s.cpis.cabinet.emptied⟩
    pending := s.pending }

/-- R180: REINIT. -/
def doReinit (s : State) : Answer := answer .ok (reinitialised s)

/-- R119: a CABINET PORTRST makes every running compartment STALE, without a fault or notice. -/
def staleAll (s : State) : State :=
  eachRunning (fun c s => s.modComp c fun x => { x with report := .stale }) s

/-- R80, R119, R120, R168: the role consequences of a PORTRST. -/
def resetRole (p : Port) (s : State) : State :=
  match p with
  | .panel => s
  | .boiler => supplierOut .boiler (s.modFeeder .boiler fun x => { x with silent := true, watch := 0 })
  | .dryer => supplierOut .dryer (s.modFeeder .dryer fun x => { x with silent := true, watch := 0 })
  | .cabinet => evaluateAll (fun _ => true) (staleAll s)

/-- R157, R168: PORTRST. -/
def doPortrst (p : Port) (s : State) : Answer :=
  let s1 := s.modCpi p Cpi.emptied
  let s2 := s1.updateNotice p Notice.cleared
  answer .ok (resetRole p (spoil p s2))

end Sys2Proof.Machine
end

