-- ==== Sys2Proof/Decode.lean ====
section
/-! DEFINITION. Words and records. No row of spec/opcode_table.json has bits, so no word spells a command. The wire
format of the requests is here: the framing of a record (R161), the request a record carries (R166 step 1, R171), and
the record of a request. -/

namespace Sys2Proof

/-- The command a word spells by the table's bits: the table gives bits to no row, so none. -/
def decodeTableWord (_nbits _w : Nat) : Option Instr := none

/-! ### Framing (R161, R163) -/

/-- R161: the length byte is in 3..16. -/
def lengthInRange (len : Byte) : Bool := 3 ≤ len.toNat && len.toNat ≤ 16

/-- R161, R163: the bytes a record with this length byte is complete at, which is its stored length. -/
def storedLength (len : Byte) : Nat := if lengthInRange len then len.toNat else 3

/-- A record cut or filled up with filler bytes 0x00 to exactly the bytes R161 counts for its length byte. -/
def Record.framed (r : Record) : Record :=
  let n := storedLength r.len - 3
  { r with body := r.body.take n ++ List.replicate (n - r.body.length) 0 }

/-- The record that a complete run of bytes makes. -/
def Record.ofBytes (bytes : List Byte) : Record where
  len := bytes.getD 0 0
  kind := bytes.getD 1 0
  tag := bytes.getD 2 0
  body := bytes.drop 3

/-! ### Kinds (R171) -/

/-- R171: the kind byte of a request. -/
def Request.kind : Request → Byte
  | .plnclr _ => 0x01
  | .plnadd _ _ _ _ _ _ _ _ => 0x02
  | .bind _ _ => 0x03
  | .tstart _ => 0x04
  | .tpause _ => 0x05
  | .tresume _ => 0x06
  | .tstop _ => 0x07
  | .brkclr => 0x08
  | .sensrep _ _ _ _ _ => 0x09
  | .doorrep _ _ => 0x0A
  | .suprep _ _ => 0x0B
  | .pwrreq _ _ => 0x0C
  | .pwrrel => 0x0D
  | .confirm _ _ => 0x0E
  | .mainsset _ => 0x0F
  | .allocrd _ => 0x10
  | .tblptr _ _ => 0x11
  | .tblrd => 0x12
  | .tblwr _ => 0x13
  | .ntfetch => 0x14
  | .ntdone _ => 0x15
  | .ntmask _ => 0x16
  | .ntcfg _ _ => 0x17
  | .modeset _ => 0x18
  | .reinit => 0x19
  | .portrst => 0x1A

/-- R171: the kind byte of TBLWR. -/
def tblwrKind : Byte := 0x13

/-- R166 step 1, R171: the request a kind byte and a body make; none for an unknown kind or a body of a length the kind
does not allow. -/
def requestOf (kind : Byte) (body : List Byte) : Option Request :=
  match kind.toNat, body with
  | 0x01, [c] => some (.plnclr c)
  | 0x02, [c, codes, cls, d1, d0, t2, t1, t0, k1, k0, want, min] =>
    some (.plnadd c codes cls (Machine.half d1 d0) (Machine.tri t2 t1 t0) (Machine.half k1 k0) want min)
  | 0x03, [c, p] => some (.bind c p)
  | 0x04, [c] => some (.tstart c)
  | 0x05, [c] => some (.tpause c)
  | 0x06, [c] => some (.tresume c)
  | 0x07, [c] => some (.tstop c)
  | 0x08, [] => some .brkclr
  | 0x09, [c, seq, t1, t0, h1, h0, w] => some (.sensrep c seq (Machine.half t1 t0) (Machine.half h1 h0) w)
  | 0x0A, [c, st] => some (.doorrep c st)
  | 0x0B, [cap, d1, d0] => some (.suprep cap (Machine.half d1 d0))
  | 0x0C, [m1, m0, w1, w0] => some (.pwrreq (Machine.half m1 m0) (Machine.half w1 w0))
  | 0x0D, [] => some .pwrrel
  | 0x0E, [sup, e1, e0] => some (.confirm sup (Machine.half e1 e0))
  | 0x0F, [w1, w0] => some (.mainsset (Machine.half w1 w0))
  | 0x10, [sup] => some (.allocrd sup)
  | 0x11, [t, r] => some (.tblptr t r)
  | 0x12, [] => some .tblrd
  | 0x13, b :: rest => if rest.length ≤ 12 then some (.tblwr (b :: rest)) else none
  | 0x14, [] => some .ntfetch
  | 0x15, [ch] => some (.ntdone ch)
  | 0x16, [m1, m0] => some (.ntmask (Machine.half m1 m0))
  | 0x17, [base, en] => some (.ntcfg base en)
  | 0x18, [m] => some (.modeset m)
  | 0x19, [] => some .reinit
  | 0x1A, [] => some .portrst
  | _, _ => none

/-- R166 step 1: the request a taken record carries; none where it is MALFORMED. A record whose length byte is outside
3..16 always is. -/
def Record.request (r : Record) : Option Request :=
  if lengthInRange r.len && r.body.length + 3 == r.len.toNat then requestOf r.kind r.body else none

/-! ### The record of a request -/

/-- The two bytes of a two-byte number, most significant first. -/
def halfBytes (x : Half) : List Byte := [x.extractLsb' 8 8, x.extractLsb' 0 8]

/-- The three bytes of a three-byte number, most significant first. -/
def triBytes (x : Tri) : List Byte := [x.extractLsb' 16 8, x.extractLsb' 8 8, x.extractLsb' 0 8]

/-- R171: the body of a request. -/
def Request.body : Request → List Byte
  | .plnclr c => [c]
  | .plnadd c codes cls duration target cap want min =>
    [c, codes, cls] ++ halfBytes duration ++ triBytes target ++ halfBytes cap ++ [want, min]
  | .bind c p => [c, p]
  | .tstart c => [c]
  | .tpause c => [c]
  | .tresume c => [c]
  | .tstop c => [c]
  | .brkclr => []
  | .sensrep c seq t h w => [c, seq] ++ halfBytes t ++ halfBytes h ++ [w]
  | .doorrep c st => [c, st]
  | .suprep cap draw => cap :: halfBytes draw
  | .pwrreq min want => halfBytes min ++ halfBytes want
  | .pwrrel => []
  | .confirm sup epoch => sup :: halfBytes epoch
  | .mainsset w => halfBytes w
  | .allocrd sup => [sup]
  | .tblptr t r => [t, r]
  | .tblrd => []
  | .tblwr image => image
  | .ntfetch => []
  | .ntdone ch => [ch]
  | .ntmask mask => halfBytes mask
  | .ntcfg base en => [base, en]
  | .modeset m => [m]
  | .reinit => []
  | .portrst => []

/-- R171: the record a controller sends for a request, with a tag. -/
def Request.record (tag : Byte) (r : Request) : Record where
  len := BitVec.ofNat 8 (r.body.length + 3)
  kind := r.kind
  tag := tag
  body := r.body

end Sys2Proof
end

