-- ==== Sys2Proof/WellFormed.lean ====
section
/-! DEFINITION. Which commands are well-formed. Request fields are raw bytes, so only the rows that carry a record or a
row image, and the clocks of a byte exchange, can be ill-formed. The meanings are total: they do not rely on these
checks. -/

namespace Sys2Proof

/-- R161: the record holds exactly the bytes its length byte completes it at. A length byte 0x00 is filler and starts no
record. -/
def Record.complete (r : Record) : Bool := r.len != 0 && r.body.length + 3 == storedLength r.len

/-- R171: the body of a TBLWR record of length 4..16. -/
def imageFits (image : List Byte) : Bool := 1 ≤ image.length && image.length ≤ 13

/-- The command is well-formed: RECORD_COMPLETE carries a complete record, MALFORMED_RECORD a complete record that the
framing check of R166 fails, TBLWR an image a record can carry, and BYTE_EXCHANGE at least one and at most eight clocks. -/
def Instr.wellFormed : Instr → Bool
  | .recordComplete _ r => r.complete
  | .malformedRecord _ r => r.complete && r.request.isNone
  | .tblwr _ _ image => imageFits image
  | .powerOn => true
  | .selectWindowClose _ => true
  | .plnclr _ _ _ => true
  | .plnadd _ _ _ _ _ _ _ _ _ _ => true
  | .bind _ _ _ _ => true
  | .tstart _ _ _ => true
  | .tpause _ _ _ => true
  | .tresume _ _ _ => true
  | .tstop _ _ _ => true
  | .brkclr _ _ => true
  | .sensrep _ _ _ _ _ _ _ => true
  | .doorrepOpen _ _ _ => true
  | .doorrepClosed _ _ _ => true
  | .suprep _ _ _ _ => true
  | .pwrreq _ _ _ _ => true
  | .pwrrel _ _ => true
  | .confirm _ _ _ _ => true
  | .mainsset _ _ _ => true
  | .allocrd _ _ _ => true
  | .tblptr _ _ _ _ => true
  | .tblrd _ _ => true
  | .ntfetch _ _ => true
  | .ntdone _ _ _ => true
  | .ntmask _ _ _ => true
  | .ntcfg _ _ _ _ => true
  | .modeset _ _ _ => true
  | .reinit _ _ => true
  | .portrst _ _ => true
  | .stepTimerExpiry _ => true
  | .capTimerExpiry _ => true
  | .doorTimerExpiry _ => true
  | .reportWatchExpiry _ => true
  | .statusWatchExpiry _ => true
  | .confirmWindowExpiry _ => true
  | .requestTake _ => true
  | .selectWindowOpen _ => true
  | .byteExchange _ b => 1 ≤ b.clocks && b.clocks ≤ 8
  | .timerSecondEnd _ => true

end Sys2Proof
end

