-- ==== Sys2Proof/Machine/Ports.lean ====
section
/-! DEFINITION. The Client Port Interface (chapter 10): record assembly, the queues, taking a record, the checks of
R166, the reply, and the scoring of the take. -/

namespace Sys2Proof.Machine

/-! ### Roles and standings of requests (R145, R166) -/

/-- R166: the request is open to the role of the port. -/
def roleAllows : Port → Request → Bool
  | .panel, .plnclr _ => true
  | .panel, .plnadd _ _ _ _ _ _ _ _ => true
  | .panel, .tstart _ => true
  | .panel, .tpause _ => true
  | .panel, .tresume _ => true
  | .panel, .tstop _ => true
  | .panel, .bind _ _ => true
  | .panel, .brkclr => true
  | .panel, .modeset _ => true
  | .panel, .reinit => true
  | .panel, .mainsset _ => true
  | .panel, .tblwr _ => true
  | .boiler, .suprep _ _ => true
  | .dryer, .suprep _ _ => true
  | .boiler, .pwrreq _ _ => true
  | .dryer, .pwrreq _ _ => true
  | .boiler, .pwrrel => true
  | .dryer, .pwrrel => true
  | .boiler, .confirm _ _ => true
  | .dryer, .confirm _ _ => true
  | .cabinet, .sensrep _ _ _ _ _ => true
  | .cabinet, .doorrep _ _ => true
  | _, .allocrd _ => true
  | _, .tblptr _ _ => true
  | _, .tblrd => true
  | _, .ntfetch => true
  | _, .ntdone _ => true
  | _, .ntmask _ => true
  | _, .ntcfg _ _ => true
  | _, .portrst => true
  | _, _ => false

/-- R145, R166: the request stays open to a CUT port. -/
def openWhileCut : Request → Bool
  | .suprep _ _ => true
  | .sensrep _ _ _ _ _ => true
  | .allocrd _ => true
  | .tblptr _ _ => true
  | .tblrd => true
  | .ntfetch => true
  | .ntdone _ => true
  | .ntmask _ => true
  | .ntcfg _ _ => true
  | .portrst => true
  | _ => false

/-- The request is a TBLWR, whose refusal by the CPI spoils the pointer (R176). -/
def isTblwr : Request → Bool
  | .tblwr _ => true
  | _ => false

/-- The request is REINIT, whose acceptance is not scored (R138, R180). -/
def isReinit : Request → Bool
  | .reinit => true
  | _ => false

/-! ### Replies (R167, R170, R172) -/

/-- R170: the value of a status code. -/
def Status.code : Status → Byte
  | .ok => 0x00
  | .part => 0x01
  | .dup => 0x02
  | .nothing => 0x03
  | .oldEpoch => 0x04
  | .malformed => 0x10
  | .role => 0x11
  | .mode => 0x12
  | .busy => 0x13
  | .range => 0x14
  | .absent => 0x15
  | .unsuited => 0x16
  | .unbound => 0x17
  | .emptyPlan => 0x18
  | .full => 0x19
  | .state => 0x1A
  | .pointer => 0x1B
  | .cut => 0x1C

/-- R167, R172: a reply record: length, kind with the reply marker, echoed tag, status, body. -/
def replyBytes (kind tag : Byte) (st : Status) (body : List Byte) : List Byte :=
  [BitVec.ofNat 8 (body.length + 4), kind ||| 0x80, tag, st.code] ++ body

/-- R167: a reply joins the tail of the port's outbound queue. -/
def queueReply (p : Port) (reply : List Byte) (s : State) : State :=
  s.modCpi p fun x => { x with outbound := x.outbound ++ [reply] }

/-- R140: the status is that of an accepted request. -/
def Status.accepted : Status → Bool
  | .ok => true
  | .part => true
  | _ => false

/-- R139, R170: the status charges RFS. -/
def Status.isFault : Status → Bool
  | .malformed => true
  | .role => true
  | _ => false

/-- What a taken request's answer hands the Standing Monitor. -/
def scoreOf (r : Request) (a : Answer) : ScoreEvent where
  fault := a.status.isFault
  accepted := a.status.accepted && !isReinit r
  clean := a.clean
  duty := a.duty

/-! ### Handling a taken record (R166) -/

/-- R166: the owning block of a request answers it. -/
def serve (p : Port) (r : Request) (s : State) : Answer :=
  match r with
  | .plnclr c => doPlnclr c s
  | .plnadd c codes cls duration target cap want min => doPlnadd c codes cls duration target cap want min s
  | .bind c prof => doBind c prof s
  | .tstart c => doTstart c s
  | .tpause c => doTpause c s
  | .tresume c => doTresume c s
  | .tstop c => doTstop c s
  | .brkclr => doBrkclr s
  | .sensrep c seq t h w => doSensrep c seq t h w s
  | .doorrep c st => doDoorrep c st s
  | .suprep capacity draw => doSuprep p capacity draw s
  | .pwrreq min want => doPwrreq p min want s
  | .pwrrel => doPwrrel p s
  | .confirm sup epoch => doConfirm p sup epoch s
  | .mainsset w => doMainsset w s
  | .allocrd sup => doAllocrd sup s
  | .tblptr t row => doTblptr p t row s
  | .tblrd => doTblrd p s
  | .tblwr image => doTblwr p image s
  | .ntfetch => doNtfetch p s
  | .ntdone ch => doNtdone p ch s
  | .ntmask mask => doNtmask p mask s
  | .ntcfg base en => doNtcfg p base en s
  | .modeset m => doModeset m s
  | .reinit => doReinit s
  | .portrst => doPortrst p s

/-- R166, R176: the CPI refuses a request; a TBLWR so refused spoils the pointer. -/
def refuse (p : Port) (r : Request) (st : Status) (s : State) : Answer :=
  answer st (if isTblwr r then spoil p s else s)

/-- R145, R166: the role and standing checks, then the owning block. -/
def checkAndServe (p : Port) (r : Request) (s : State) : Answer :=
  if !roleAllows p r then refuse p r .role s
  else if s.standing p = .cut ∧ !openWhileCut r then refuse p r .cut s
  else serve p r s

/-- R143, R166, R167: a well-framed request is checked, served, scored and answered. The reply is composed by the
owning block, before the scores of the take are judged (log 14). -/
def handle (p : Port) (tag : Byte) (r : Request) (s : State) : State :=
  let a := checkAndServe p r s
  let e := scoreOf r a
  let s1 := if e = ScoreEvent.none then a.state else scoreEvent p e a.state
  queueReply p (replyBytes r.kind tag a.status a.body) s1

/-- R139, R166, R176: a malformed record is answered MALFORMED and charged; with the kind of TBLWR it spoils the
pointer (log 16). -/
def handleMalformed (p : Port) (kind tag : Byte) (s : State) : State :=
  let s1 := if kind = tblwrKind then spoil p s else s
  queueReply p (replyBytes kind tag .malformed []) (scoreEvent p .requestFault s1)

/-- R166: a taken record is handled. -/
def handleRecord (p : Port) (r : Record) (s : State) : State :=
  match r.request with
  | some q => handle p r.tag q s
  | none => handleMalformed p r.kind r.tag s

/-! ### The queues (R163 to R165) -/

/-- R163: the bytes the inbound queue holds. -/
def Cpi.inboundLength (x : Cpi) : Nat := (x.inbound.map fun r => storedLength r.len).sum

/-- R163: the bytes the outbound queue holds. A reply partly clocked out counts whole until its last byte has left. -/
def Cpi.outboundLength (x : Cpi) : Nat := (x.outbound.map List.length).sum

/-- R165: the CPI may take a record: 32 outbound bytes are free and, under LIMITED, the take interval has run. -/
def takeReady (p : Port) (s : State) : Bool :=
  (s.cpi p).outboundLength + Config.takeRoom ≤ Config.outboundBytes &&
    (s.standing p != .limited || 1 ≤ (s.cpi p).interval)

/-- R163, R164: a complete record is stored at the tail of the inbound queue, or dropped whole with OVERRUN. -/
def arrive (p : Port) (r : Record) (s : State) : State :=
  if (s.cpi p).inboundLength + storedLength r.len ≤ Config.inboundBytes then
    s.modCpi p fun x => { x with inbound := x.inbound ++ [r] }
  else scoreEvent p .requestFault (postTo p .overrun Detail.none s)

/-- R165: a take starts the take interval from 0. -/
def startInterval (p : Port) (s : State) : State := s.modCpi p fun x => { x with interval := 0 }

/-- R165, R166: the record at the head of the inbound queue is taken and handled, if there is one. -/
def takeHead (p : Port) (s : State) : State :=
  match (s.cpi p).inbound with
  | [] => s
  | r :: rest => handleRecord p r (startInterval p (s.modCpi p fun x => { x with inbound := rest }))

/-- A record that arrives now is taken at once: nothing waits before it and R165 lets the CPI take (log 2). -/
def takesAtOnce (p : Port) (s : State) : Bool := (s.cpi p).inbound.isEmpty && takeReady p s

/-- A controller's request reaches its port: taken at once where R165 lets it, else stored or dropped by R163 and R164
(log 2). -/
def submit (p : Port) (tag : Byte) (r : Request) (s : State) : State :=
  if takesAtOnce p s then handle p tag r (startInterval p s) else arrive p (r.record tag).framed s

/-- A record of any content reaches its port, in the same way. A length byte 0x00 is filler and starts no record
(R161). -/
def submitRecord (p : Port) (r : Record) (s : State) : State :=
  if r.len = 0 then s
  else if takesAtOnce p s then handleRecord p r.framed (startInterval p s) else arrive p r.framed s

/-! ### Record assembly (R160 to R162) -/

/-- R161: where assembly stands once a record with this length byte is complete. -/
def assemblyAfter (len : Byte) : Assembly := if lengthInRange len then .idle else .discarding

/-- R161, R163: a record is complete: assembly moves on and the record goes to the inbound queue. -/
def completeRecord (p : Port) (r : Record) (s : State) : State :=
  arrive p r (s.modCpi p fun x => { x with assembly := assemblyAfter r.len })

/-- R161: a record may be the one that completes next in an open window: none while the window's rest is discarded, and
only one that begins with the bytes assembled. -/
def Assembly.mayComplete (r : Record) : Assembly → Bool
  | .idle => true
  | .assembling bytes => bytes.isPrefixOf ([r.len, r.kind, r.tag] ++ r.body)
  | .discarding => false

/-- R161: a run of bytes is a complete record. -/
def bytesComplete (bytes : List Byte) : Bool := storedLength (bytes.getD 0 0) ≤ bytes.length

/-- R161: the byte clocked in goes to record assembly. -/
def assemble (p : Port) (b : Byte) (s : State) : State :=
  match (s.cpi p).assembly with
  | .discarding => s
  | .idle => if b = 0 then s else s.modCpi p fun x => { x with assembly := .assembling [b] }
  | .assembling bytes =>
    let all := bytes ++ [b]
    if bytesComplete all then completeRecord p (Record.ofBytes all) s
    else s.modCpi p fun x => { x with assembly := .assembling all }

/-- R160: the byte clocked out is the head of the outbound queue, or filler; it leaves the queue, and the reply leaves
with its last byte. -/
def Cpi.clockOut (x : Cpi) : Cpi :=
  match x.outbound with
  | [] => { x with lastOut := 0 }
  | r :: rest =>
    if x.sent + 1 < r.length then { x with lastOut := r.getD x.sent 0, sent := x.sent + 1 }
    else { x with lastOut := r.getD x.sent 0, sent := 0, outbound := rest }

/-- R160: the byte clocked out from here on is the head of the outbound queue, if there is one: at its first bit the
reply is partly clocked out. With the queue empty at that bit it is the filler (log 13). -/
def Cpi.beginByte (x : Cpi) : Cpi := if x.bits.isEmpty then { x with begun := !x.outbound.isEmpty } else x

/-- R160: the eighth bit of the byte clocked out, of a reply or the filler, and so of the byte clocked in. -/
def Cpi.endByte (x : Cpi) : Cpi :=
  { (if x.begun then x.clockOut else { x with lastOut := 0 }) with bits := [], begun := false }

/-- R160: one clock of a port within a window. With the eighth bit of the inbound byte the byte goes to record assembly
(R161) and the outbound byte leaves. -/
def clockBit (p : Port) (s : State) (b : Bool) : State :=
  let x := (s.cpi p).beginByte
  let bits := x.bits ++ [b]
  if bits.length < 8 then s.setCpi p { x with bits := bits } else assemble p (byteOfWire bits) (s.setCpi p x.endByte)

/-- R160: some clocks within a window, the controller sending the first bits of a byte. -/
def clockBits (p : Port) (b : Clocked) (s : State) : State :=
  ((wireBits b.byte).take b.clocks).foldl (clockBit p) s

end Sys2Proof.Machine
end

