-- ==== Sys2Proof/Machine/Timers.lean ====
section
/-! DEFINITION. The Compartment and Supplier Timers (chapter 6): when each counts, what a second adds, when the next
second is its expiry, and what each expiry does. A timer reaches its expiry value and expires as one event (R110,
log 3). -/

namespace Sys2Proof.Machine

/-! ### Step and cap timers (R111 to R113) -/

/-- R112: the step timer counts; that of a MOIST or DRYTO step stops at 65,535 units. -/
def stepCounting (s : State) (c : Comp) : Bool :=
  match s.curStep c with
  | none => false
  | some st =>
    stepCounts st.ending (s.comp c).state &&
      !((st.ending == .moist || st.ending == .dryto) && Config.unitTop ≤ (s.comp c).stepUnits)

/-- R113: the cap timer counts. -/
def capCounting (s : State) (c : Comp) : Bool :=
  match s.curStep c with
  | none => false
  | some st => capCounts st.ending (s.comp c).state

/-- R111: units and phase after one more second of a unit. -/
def tickUnits (unit units phase : Nat) : Nat × Nat :=
  if unit ≤ phase + 1 then (units + 1, 0) else (units, phase + 1)

/-- R111: the next second brings a count of units to a top. -/
def reaches (unit units phase top : Nat) : Bool := top ≤ (tickUnits unit units phase).1

/-- R111: the step timer is one second short of its expiry: a WALL or GATED step whose next second ends the
duration. -/
def stepDue (s : State) (c : Comp) : Bool :=
  stepCounting s c &&
    match s.curStep c with
    | none => false
    | some st =>
      match st.ending, st.duration with
      | .wall, some d => reaches st.unit.seconds (s.comp c).stepUnits (s.comp c).stepPhase d
      | .gated, some d => reaches st.unit.seconds (s.comp c).stepUnits (s.comp c).stepPhase d
      | _, _ => false

/-- R111: the cap timer is one second short of its expiry. -/
def capDue (s : State) (c : Comp) : Bool :=
  capCounting s c &&
    match s.curStep c with
    | none => false
    | some st =>
      match st.cap with
      | some k => reaches st.unit.seconds (s.comp c).capUnits (s.comp c).capPhase k
      | none => false

/-- The seconds of the current step's unit. -/
def State.curUnit (s : State) (c : Comp) : Nat :=
  match s.curStep c with
  | some st => st.unit.seconds
  | none => 1

/-- R111: one more second on the step timer. -/
def tickStep (c : Comp) (s : State) : State :=
  let u := s.curUnit c
  s.modComp c fun x =>
    { x with
      stepUnits := (tickUnits u x.stepUnits x.stepPhase).1
      stepPhase := (tickUnits u x.stepUnits x.stepPhase).2 }

/-- R111: one more second on the cap timer. -/
def tickCap (c : Comp) (s : State) : State :=
  let u := s.curUnit c
  s.modComp c fun x =>
    { x with
      capUnits := (tickUnits u x.capUnits x.capPhase).1
      capPhase := (tickUnits u x.capUnits x.capPhase).2 }

/-- R13, R115: the step timer's last second ends and the step ends DONE. -/
def stepExpiry (c : Comp) (s : State) : State := endStep c .done (tickStep c s)

/-- R13, R115: the cap timer's last second ends and the step ends CAPPED. -/
def capExpiry (c : Comp) (s : State) : State := endStep c .capped (tickCap c s)

/-! ### Door timer (R116) -/

/-- R116: the door timer counts while the door is OPEN and the treatment runs. -/
def doorCounting (s : State) (c : Comp) : Bool := s.running c && (s.comp c).doorOpen

/-- R116: the next second brings the door timer to door_limit. -/
def doorDue (s : State) (c : Comp) : Bool := doorCounting s c && s.config.doorLimit ≤ (s.comp c).doorTimer + 1

/-- R116: one more second on the door timer. -/
def tickDoor (c : Comp) (s : State) : State := s.modComp c fun x => { x with doorTimer := x.doorTimer + 1 }

/-- R24, R116: the door timer expires and the treatment ends DOOR_TIMEOUT. -/
def doorExpiry (c : Comp) (s : State) : State := endTreatment c .doorTimeout (some .stopped) (tickDoor c s)

/-! ### Report watch (R117, R118) -/

/-- R117: the report watch counts while the treatment runs and the report state is AWAITING or FRESH. -/
def watchCounting (s : State) (c : Comp) : Bool :=
  s.running c && ((s.comp c).report == .awaiting || (s.comp c).report == .fresh)

/-- R118: the next second brings the report watch to report_watch. -/
def watchDue (s : State) (c : Comp) : Bool := watchCounting s c && s.config.reportWatch ≤ (s.comp c).watch + 1

/-- R117: one more second on the report watch. -/
def tickWatch (c : Comp) (s : State) : State := s.modComp c fun x => { x with watch := x.watch + 1 }

/-- R118, R141: the report watch expires: STALE, the notice, the evaluation, and the duty fault of CABINET, on whose
standing the monitor acts last (R143). -/
def watchExpiry (c : Comp) (s : State) : State :=
  let s1 := (tickWatch c s).modComp c fun x => { x with report := .stale }
  let s2 := post .stale (Detail.ofComp c) s1
  scoreEvent .cabinet .dutyFault (evaluate c s2)

/-! ### Status watch (R78, R120) -/

/-- R120: the status watch counts in SERVICE and WATCH while the supply is not silent. -/
def statusCounting (s : State) (u : Supplier) : Bool := s.mode != .setup && !(s.feeder u).silent

/-- R120: the next second brings the status watch to supplier_watch. -/
def statusDue (s : State) (u : Supplier) : Bool :=
  statusCounting s u && s.config.supplierWatch ≤ (s.feeder u).watch + 1

/-- R120: one more second on the status watch. -/
def tickStatus (u : Supplier) (s : State) : State := s.modFeeder u fun x => { x with watch := x.watch + 1 }

/-- R78, R120, R141: the status watch expires and stops at 0: the supply is silent, the MAINS entry goes, the capacity
falls, STALE is posted, and the supplier is charged. -/
def statusExpiry (u : Supplier) (s : State) : State :=
  let s1 := supplierOut u (s.modFeeder u fun x => { x with silent := true, watch := 0 })
  let s2 := post .stale (Detail.ofSupply compsNone u.supply) s1
  scoreEvent u.port .dutyFault s2

/-! ### Confirm window (R101, R121) -/

/-- R121: the next second brings the confirm window to 0. -/
def windowDue (s : State) (sup : Supply) : Bool := (s.supply sup).offerOut && (s.supply sup).window ≤ 1

/-- R121: the window lowers its count by 1. -/
def tickWindow (sup : Supply) (s : State) : State := s.modSupply sup fun r => { r with window := r.window - 1 }

/-- R101: a supplier's own MAINS entry holds an offer. -/
def holdsOffer (s : State) (u : Supplier) : Bool :=
  match s.entry .mains (.supplier u) with
  | some e => e.offered.isSome
  | none => false

/-- R101, R141: the ports charged for the expiry of a supply's window. -/
def chargedPorts (s : State) (sup : Supply) : List Port :=
  match sup with
  | .steam => [.boiler]
  | .dryair => [.dryer]
  | .mains =>
    (if holdsOffer s .boiler then [Port.boiler] else []) ++ (if holdsOffer s .dryer then [Port.dryer] else [])

/-- R101: the confirm window expires; the standings are judged after the pass is settled (R143), BOILER before DRYER
(log 7). -/
def windowExpiry (sup : Supply) (s : State) : State :=
  (chargedPorts s sup).foldl (fun s p => scoreEvent p .dutyFault s) (expireOffers sup s)

/-! ### Take interval (R165) -/

/-- R165: the take interval counts whole seconds and saturates at 1. -/
def tickInterval (p : Port) (s : State) : State := s.modCpi p fun x => { x with interval := min 1 (x.interval + 1) }

/-! ### One second (R110) -/

/-- R110: one timer reaches the end of a whole second of its own. A stopped timer does nothing; a timer whose next
second is its expiry expires (log 3). -/
def secondEnd (t : Timer) (s : State) : State :=
  match t with
  | .step c => if stepDue s c then stepExpiry c s else if stepCounting s c then tickStep c s else s
  | .cap c => if capDue s c then capExpiry c s else if capCounting s c then tickCap c s else s
  | .door c => if doorDue s c then doorExpiry c s else if doorCounting s c then tickDoor c s else s
  | .reportWatch c => if watchDue s c then watchExpiry c s else if watchCounting s c then tickWatch c s else s
  | .statusWatch u =>
    if statusDue s u then statusExpiry u s else if statusCounting s u then tickStatus u s else s
  | .confirmWindow sup =>
    if windowDue s sup then windowExpiry sup s else if (s.supply sup).offerOut then tickWindow sup s else s
  | .takeInterval p => tickInterval p s

end Sys2Proof.Machine
end

