-- ==== Sys2Proof/Machine/Commands.lean ====
section
/-! DEFINITION. The meaning of every command: one definition for each row of spec/opcode_table.json, over the shared
operations of the blocks. -/

namespace Sys2Proof.Machine

/-- The outcome of a command: the part never stops. -/
abbrev Result := Host.Outcome State Fault Refusal

/-! ### Power and the wire -/

/-- POWER_ON (R180): every block takes its power-on values; the queue of commands is not the part's. -/
def execPowerOn (s : State) : Result := .next { State.reset with pending := s.pending }

/-- SELECT_WINDOW_OPEN (R160): the port's select input goes low. -/
def execSelectWindowOpen (p : Port) (s : State) : Result := .next (s.modCpi p fun x => { x with selected := true })

/-- R162: assembly is cut short by the end of the window. -/
def Assembly.cutShort : Assembly → Bool
  | .assembling _ => true
  | .idle => false
  | .discarding => false

/-- SELECT_WINDOW_CLOSE (R160, R162): assembly returns to IDLE; a record cut short is discarded and charged. The bits of
an unfinished inbound byte are dropped, and an unfinished outbound byte stays at the head. A window that is not open does
not close. -/
def execSelectWindowClose (p : Port) (s : State) : Result :=
  if (s.cpi p).selected then
    let cut := (s.cpi p).assembly.cutShort
    let s1 := s.modCpi p fun x => { x with selected := false, assembly := .idle, bits := [] }
    .next (if cut then scoreEvent p .requestFault s1 else s1)
  else .next s

/-- BYTE_EXCHANGE (R160, R161): within a window each eight clocks exchange one byte in each direction; outside it the
clocks are ignored. The command gives some of the eight, so that a byte may come in parts (log 13). -/
def execByteExchange (p : Port) (b : Clocked) (s : State) : Result :=
  .next (if (s.cpi p).selected then clockBits p b s else s)

/-- RECORD_COMPLETE (R161, R163, R164): a record is complete and is stored or dropped. Within an open window assembly
moves on by R161 (log 2), and a record that assembly cannot complete there is none: nothing changes. A length byte 0x00
starts no record. The bits of a byte that is partly clocked are left as they stand: DESIGN CHOICE, log 2. -/
def execRecordComplete (p : Port) (r : Record) (s : State) : Result :=
  .next (
    if r.len = 0 then s
    else if !(s.cpi p).selected then arrive p r.framed s
    else if (s.cpi p).assembly.mayComplete r.framed then completeRecord p r.framed s
    else s)

/-- REQUEST_TAKE (R165): the CPI takes the head inbound record where it may; else the record waits. -/
def execRequestTake (p : Port) (s : State) : Result := .next (if takeReady p s then takeHead p s else s)

/-- MALFORMED_RECORD (R166): a record that fails the framing check is answered MALFORMED and charged. -/
def execMalformedRecord (p : Port) (r : Record) (s : State) : Result := .next (submitRecord p r s)

/-! ### Requests -/

/-- PLNCLR (R5). -/
def execPlnclr (p : Port) (tag c : Byte) (s : State) : Result := .next (submit p tag (.plnclr c) s)

/-- PLNADD (R4). -/
def execPlnadd (p : Port) (tag c codes cls : Byte) (duration : Half) (target : Tri) (cap : Half) (want min : Byte)
    (s : State) : Result :=
  .next (submit p tag (.plnadd c codes cls duration target cap want min) s)

/-- BIND (R31). -/
def execBind (p : Port) (tag c prof : Byte) (s : State) : Result := .next (submit p tag (.bind c prof) s)

/-- TSTART (R8). -/
def execTstart (p : Port) (tag c : Byte) (s : State) : Result := .next (submit p tag (.tstart c) s)

/-- TPAUSE (R18). -/
def execTpause (p : Port) (tag c : Byte) (s : State) : Result := .next (submit p tag (.tpause c) s)

/-- TRESUME (R18). -/
def execTresume (p : Port) (tag c : Byte) (s : State) : Result := .next (submit p tag (.tresume c) s)

/-- TSTOP (R17). -/
def execTstop (p : Port) (tag c : Byte) (s : State) : Result := .next (submit p tag (.tstop c) s)

/-- BRKCLR (R137). -/
def execBrkclr (p : Port) (tag : Byte) (s : State) : Result := .next (submit p tag .brkclr s)

/-- SENSREP (R47). -/
def execSensrep (p : Port) (tag c seq : Byte) (t h : Half) (w : Byte) (s : State) : Result :=
  .next (submit p tag (.sensrep c seq t h w) s)

/-- DOORREP_OPEN (R23): DOORREP with the door state 0x01. -/
def execDoorrepOpen (p : Port) (tag c : Byte) (s : State) : Result := .next (submit p tag (.doorrep c 0x01) s)

/-- DOORREP_CLOSED (R24): DOORREP with the door state 0x00. -/
def execDoorrepClosed (p : Port) (tag c : Byte) (s : State) : Result := .next (submit p tag (.doorrep c 0x00) s)

/-- SUPREP (R76). -/
def execSuprep (p : Port) (tag capacity : Byte) (draw : Half) (s : State) : Result :=
  .next (submit p tag (.suprep capacity draw) s)

/-- PWRREQ (R81). -/
def execPwrreq (p : Port) (tag : Byte) (min want : Half) (s : State) : Result :=
  .next (submit p tag (.pwrreq min want) s)

/-- PWRREL (R83). -/
def execPwrrel (p : Port) (tag : Byte) (s : State) : Result := .next (submit p tag .pwrrel s)

/-- CONFIRM (R96). -/
def execConfirm (p : Port) (tag sup : Byte) (epoch : Half) (s : State) : Result :=
  .next (submit p tag (.confirm sup epoch) s)

/-- MAINSSET (R84). -/
def execMainsset (p : Port) (tag : Byte) (w : Half) (s : State) : Result := .next (submit p tag (.mainsset w) s)

/-- ALLOCRD (R108). -/
def execAllocrd (p : Port) (tag sup : Byte) (s : State) : Result := .next (submit p tag (.allocrd sup) s)

/-- TBLPTR (R174). -/
def execTblptr (p : Port) (tag table row : Byte) (s : State) : Result := .next (submit p tag (.tblptr table row) s)

/-- TBLRD (R175). -/
def execTblrd (p : Port) (tag : Byte) (s : State) : Result := .next (submit p tag .tblrd s)

/-- TBLWR (R176). -/
def execTblwr (p : Port) (tag : Byte) (image : List Byte) (s : State) : Result :=
  if imageFits image then .next (submit p tag (.tblwr image) s)
  else .next (submitRecord p (Request.record tag (.tblwr image)) s)

/-- NTFETCH (R153). -/
def execNtfetch (p : Port) (tag : Byte) (s : State) : Result := .next (submit p tag .ntfetch s)

/-- NTDONE (R154). -/
def execNtdone (p : Port) (tag ch : Byte) (s : State) : Result := .next (submit p tag (.ntdone ch) s)

/-- NTMASK (R155). -/
def execNtmask (p : Port) (tag : Byte) (mask : Half) (s : State) : Result := .next (submit p tag (.ntmask mask) s)

/-- NTCFG (R156). -/
def execNtcfg (p : Port) (tag base enable : Byte) (s : State) : Result := .next (submit p tag (.ntcfg base enable) s)

/-- MODESET (R179). -/
def execModeset (p : Port) (tag mode : Byte) (s : State) : Result := .next (submit p tag (.modeset mode) s)

/-- REINIT (R180). -/
def execReinit (p : Port) (tag : Byte) (s : State) : Result := .next (submit p tag .reinit s)

/-- PORTRST (R168). -/
def execPortrst (p : Port) (tag : Byte) (s : State) : Result := .next (submit p tag .portrst s)

/-! ### Timers -/

/-- STEP_TIMER_EXPIRY (R13): the step timer's next second ends its duration; a timer that is not there yet does not
expire (log 3). -/
def execStepTimerExpiry (c : Comp) (s : State) : Result := .next (if stepDue s c then stepExpiry c s else s)

/-- CAP_TIMER_EXPIRY (R13). -/
def execCapTimerExpiry (c : Comp) (s : State) : Result := .next (if capDue s c then capExpiry c s else s)

/-- DOOR_TIMER_EXPIRY (R24, R116). -/
def execDoorTimerExpiry (c : Comp) (s : State) : Result := .next (if doorDue s c then doorExpiry c s else s)

/-- REPORT_WATCH_EXPIRY (R118). -/
def execReportWatchExpiry (c : Comp) (s : State) : Result := .next (if watchDue s c then watchExpiry c s else s)

/-- STATUS_WATCH_EXPIRY (R78). -/
def execStatusWatchExpiry (u : Supplier) (s : State) : Result := .next (if statusDue s u then statusExpiry u s else s)

/-- CONFIRM_WINDOW_EXPIRY (R101). -/
def execConfirmWindowExpiry (sup : Supply) (s : State) : Result :=
  .next (if windowDue s sup then windowExpiry sup s else s)

/-- TIMER_SECOND_END (R110). -/
def execTimerSecondEnd (t : Timer) (s : State) : Result := .next (secondEnd t s)

end Sys2Proof.Machine
end

