-- ==== Sys2Proof/Machine/Dispatch.lean ====
section
/-! DEFINITION. exec: one arm for every command, each a direct call of its meaning. -/

namespace Sys2Proof.Machine

def exec (i : Instr) (s : State) : Host.Outcome State Fault Refusal :=
  match i with
  | .powerOn => Sys2Proof.Machine.execPowerOn s
  | .selectWindowClose p => Sys2Proof.Machine.execSelectWindowClose p s
  | .recordComplete p r => Sys2Proof.Machine.execRecordComplete p r s
  | .malformedRecord p r => Sys2Proof.Machine.execMalformedRecord p r s
  | .plnclr p tag c => Sys2Proof.Machine.execPlnclr p tag c s
  | .plnadd p tag c codes cls duration target cap want min => Sys2Proof.Machine.execPlnadd p tag c codes cls duration target cap want min s
  | .bind p tag c prof => Sys2Proof.Machine.execBind p tag c prof s
  | .tstart p tag c => Sys2Proof.Machine.execTstart p tag c s
  | .tpause p tag c => Sys2Proof.Machine.execTpause p tag c s
  | .tresume p tag c => Sys2Proof.Machine.execTresume p tag c s
  | .tstop p tag c => Sys2Proof.Machine.execTstop p tag c s
  | .brkclr p tag => Sys2Proof.Machine.execBrkclr p tag s
  | .sensrep p tag c seq t h w => Sys2Proof.Machine.execSensrep p tag c seq t h w s
  | .doorrepOpen p tag c => Sys2Proof.Machine.execDoorrepOpen p tag c s
  | .doorrepClosed p tag c => Sys2Proof.Machine.execDoorrepClosed p tag c s
  | .suprep p tag capacity draw => Sys2Proof.Machine.execSuprep p tag capacity draw s
  | .pwrreq p tag min want => Sys2Proof.Machine.execPwrreq p tag min want s
  | .pwrrel p tag => Sys2Proof.Machine.execPwrrel p tag s
  | .confirm p tag sup epoch => Sys2Proof.Machine.execConfirm p tag sup epoch s
  | .mainsset p tag w => Sys2Proof.Machine.execMainsset p tag w s
  | .allocrd p tag sup => Sys2Proof.Machine.execAllocrd p tag sup s
  | .tblptr p tag table row => Sys2Proof.Machine.execTblptr p tag table row s
  | .tblrd p tag => Sys2Proof.Machine.execTblrd p tag s
  | .tblwr p tag image => Sys2Proof.Machine.execTblwr p tag image s
  | .ntfetch p tag => Sys2Proof.Machine.execNtfetch p tag s
  | .ntdone p tag ch => Sys2Proof.Machine.execNtdone p tag ch s
  | .ntmask p tag mask => Sys2Proof.Machine.execNtmask p tag mask s
  | .ntcfg p tag base enable => Sys2Proof.Machine.execNtcfg p tag base enable s
  | .modeset p tag mode => Sys2Proof.Machine.execModeset p tag mode s
  | .reinit p tag => Sys2Proof.Machine.execReinit p tag s
  | .portrst p tag => Sys2Proof.Machine.execPortrst p tag s
  | .stepTimerExpiry c => Sys2Proof.Machine.execStepTimerExpiry c s
  | .capTimerExpiry c => Sys2Proof.Machine.execCapTimerExpiry c s
  | .doorTimerExpiry c => Sys2Proof.Machine.execDoorTimerExpiry c s
  | .reportWatchExpiry c => Sys2Proof.Machine.execReportWatchExpiry c s
  | .statusWatchExpiry u => Sys2Proof.Machine.execStatusWatchExpiry u s
  | .confirmWindowExpiry sup => Sys2Proof.Machine.execConfirmWindowExpiry sup s
  | .requestTake p => Sys2Proof.Machine.execRequestTake p s
  | .selectWindowOpen p => Sys2Proof.Machine.execSelectWindowOpen p s
  | .byteExchange p b => Sys2Proof.Machine.execByteExchange p b s
  | .timerSecondEnd t => Sys2Proof.Machine.execTimerSecondEnd t s

end Sys2Proof.Machine
end

