-- ==== Sys2Proof/Safety.lean ====
section
/-! DEFINITION. What a safe run is, in the terms the statements use: the conditions on the state that the spec says
always hold, and the shape of an answer to a request. -/

namespace Sys2Proof.Machine

/-! ### Conditions that hold in every state of a run -/

/-- R152: every attention line is asserted exactly when its port holds an unmasked pending channel above every channel
in service. -/
def LinesRight (s : State) : Prop := ∀ p, (s.notice p).line = (s.notice p).lineCondition

/-- R138: the ranges of the Standing Monitor's fields, and the standing the scores give. -/
def Score.right (x : Score) : Prop :=
  x.standing = standingOf x.rfs x.dfs ∧ x.rfs ≤ Config.scoreTop ∧ x.dfs ≤ Config.scoreTop
    ∧ x.readmission < Config.readmitAt ∧ (x.standing ≠ .cut → x.readmission = 0)

/-- R138 for every port. -/
def StandingsRight (s : State) : Prop := ∀ p, (s.score p).right

/-- R68: the parties that may hold an entry of a supply. -/
def mayClaim : Supply → Claimant → Bool
  | .mains, .supplier _ => true
  | .mains, .comp _ => false
  | .steam, .comp _ => true
  | .steam, .supplier _ => false
  | .dryair, .comp _ => true
  | .dryair, .supplier _ => false

/-- R70, R85: Σ, the sum of the held amounts of a list. -/
def heldTotal (entries : List Entry) : Nat := (entries.map Entry.held).sum

/-- R68, R70, R72: the entries of a supply are of its own claimants, at most one each, and hold no more than its
effective capacity, which is no more than its maximum. -/
def SupplyRec.safe (sup : Supply) (r : SupplyRec) : Prop :=
  (r.entries.map Entry.claimant).Nodup ∧ (∀ e ∈ r.entries, mayClaim sup e.claimant = true)
    ∧ heldTotal r.entries ≤ r.effCap ∧ r.effCap ≤ supplyMax sup

/-- R70 for every supply: no supply is overdrawn. -/
def SuppliesSafe (s : State) : Prop := ∀ sup, (s.supply sup).safe sup

/-- R94, R121: the offer-outstanding flag is set exactly while an entry holds an offered amount, and the window reads 0
while the flag is clear. -/
def SupplyRec.flagged (r : SupplyRec) : Prop :=
  (r.offerOut = r.entries.any fun e => e.offered.isSome) ∧ (r.offerOut = false → r.window = 0)

/-- R94 for every supply. -/
def OffersFlagged (s : State) : Prop := ∀ sup, (s.supply sup).flagged

/-- R163: both queues of every port hold no more bytes than they have room for. -/
def QueuesBounded (s : State) : Prop :=
  ∀ p, (s.cpi p).inboundLength ≤ Config.inboundBytes ∧ (s.cpi p).outboundLength ≤ Config.outboundBytes

/-- R3: a plan holds at most 12 steps, and the step index of a running treatment names one of them. -/
def StepsInPlan (s : State) : Prop :=
  ∀ c, (s.plan c).length ≤ Config.planSteps ∧ (s.running c = true → (s.comp c).step < (s.plan c).length)

/-- R46, R56: the doses lie within their ranges. -/
def DosesBounded (s : State) : Prop :=
  ∀ c, (s.comp c).hd ≤ Config.doseTop ∧ (s.comp c).md ≤ Config.doseTop ∧ (s.comp c).ws ≤ Config.wetTop

/-- R1, R7, R19: a running compartment with a pause cause is PAUSED, and a compartment's entry stands only while its
treatment is WAITING or ACTIVE and the supply is its current step's. -/
def EntriesWhileRunning (s : State) : Prop :=
  ∀ c, (s.running c = true → (s.comp c).pause ≠ ⟨false, false, false⟩ → (s.comp c).state = .paused)
    ∧ ∀ sup, (s.entry sup (.comp c)).isSome = true →
      ((s.comp c).state = .waiting ∨ (s.comp c).state = .active) ∧ s.curSupply c = some sup

/-- R3: the claim of a step lies within its ranges. -/
def StepRec.claimRight (st : StepRec) : Prop :=
  ∀ cl, st.claim = some cl → cl.cls ≤ 7 ∧ 1 ≤ cl.min ∧ cl.min ≤ cl.want

/-- R71: an in-force amount is 0 or within min..want, and an offered amount exceeds it, is at least min and at most
want. -/
def Entry.amountsRight (e : Entry) : Prop :=
  1 ≤ e.min ∧ e.min ≤ e.want ∧ (e.inForce = 0 ∨ (e.min ≤ e.inForce ∧ e.inForce ≤ e.want))
    ∧ ∀ o, e.offered = some o → e.inForce < o ∧ e.min ≤ o ∧ o ≤ e.want

/-- R3, R71 for every plan and every supply. -/
def AmountsRight (s : State) : Prop :=
  (∀ sup, ∀ e ∈ (s.supply sup).entries, e.amountsRight) ∧ ∀ c, ∀ st ∈ s.plan c, st.claimRight

/-! ### Notices, by what a port can see -/

/-- The channel is pending on the port, and its detail names at least these compartments and supplies (R149, R151). -/
def Shows (s : State) (p : Port) (ch : Channel) (comps : PerComp Bool) (sups : PerSupply Bool) : Prop :=
  ∃ d, (s.notice p).pending.get ch.num = some d ∧ (∀ c, comps.get c = true → d.comps.get c = true)
    ∧ ∀ u, sups.get u = true → d.supplies.get u = true

end Sys2Proof.Machine

namespace Sys2Proof

/-! ### Requests as commands -/

/-- The command row by which a port sends a request: DOORREP has one row for each of its two door states, and a TBLWR
row carries an image that a record can carry. -/
def Request.row (p : Port) (tag : Byte) : Request → Option Instr
  | .plnclr c => some (.plnclr p tag c)
  | .plnadd c codes cls duration target cap want min =>
    some (.plnadd p tag c codes cls duration target cap want min)
  | .bind c prof => some (.bind p tag c prof)
  | .tstart c => some (.tstart p tag c)
  | .tpause c => some (.tpause p tag c)
  | .tresume c => some (.tresume p tag c)
  | .tstop c => some (.tstop p tag c)
  | .brkclr => some (.brkclr p tag)
  | .sensrep c seq t h w => some (.sensrep p tag c seq t h w)
  | .doorrep c door => if door = 1 then some (.doorrepOpen p tag c) else if door = 0 then some (.doorrepClosed p tag c)
      else none
  | .suprep capacity draw => some (.suprep p tag capacity draw)
  | .pwrreq min want => some (.pwrreq p tag min want)
  | .pwrrel => some (.pwrrel p tag)
  | .confirm sup epoch => some (.confirm p tag sup epoch)
  | .mainsset w => some (.mainsset p tag w)
  | .allocrd sup => some (.allocrd p tag sup)
  | .tblptr table row => some (.tblptr p tag table row)
  | .tblrd => some (.tblrd p tag)
  | .tblwr image => if imageFits image then some (.tblwr p tag image) else none
  | .ntfetch => some (.ntfetch p tag)
  | .ntdone ch => some (.ntdone p tag ch)
  | .ntmask mask => some (.ntmask p tag mask)
  | .ntcfg base enable => some (.ntcfg p tag base enable)
  | .modeset mode => some (.modeset p tag mode)
  | .reinit => some (.reinit p tag)
  | .portrst => some (.portrst p tag)

end Sys2Proof

namespace Sys2Proof.Machine

/-- R166: the kind bytes every role may send: ALLOCRD, TBLPTR, TBLRD, the four notice requests and PORTRST. -/
def sharedKinds : List Byte := [0x10, 0x11, 0x12, 0x14, 0x15, 0x16, 0x17, 0x1A]

/-- R166: the kind bytes the role of a port may send. -/
def roleKinds : Port → List Byte
  | .panel => [0x01, 0x02, 0x03, 0x04, 0x05, 0x06, 0x07, 0x08, 0x0F, 0x13, 0x18, 0x19] ++ sharedKinds
  | .boiler => [0x0B, 0x0C, 0x0D, 0x0E] ++ sharedKinds
  | .dryer => [0x0B, 0x0C, 0x0D, 0x0E] ++ sharedKinds
  | .cabinet => [0x09, 0x0A] ++ sharedKinds

/-- R145: the kind bytes that stay open to a CUT port. -/
def cutKinds : List Byte := [0x09, 0x0B] ++ sharedKinds

/-- The bytes of a record clocked in one after another at a port (BYTE_EXCHANGE). -/
def clockIn (p : Port) (bytes : List Byte) (s : State) : State :=
  bytes.foldl
    (fun s b =>
      match exec (.byteExchange p ⟨b, 8⟩) s with
      | .next t => t
      | .fault _ => s
      | .refused _ => s) s

/-! ### The answer to a request -/

/-- The port's next record is taken on arrival, and the port is not CUT (R145, R165; log 2). -/
abbrev Served (p : Port) (s : State) : Prop := takesAtOnce p s = true ∧ s.standing p ≠ .cut

/-- R140: what an accepted request without a duty effect hands the Standing Monitor. -/
def acceptedEvent : ScoreEvent := { ScoreEvent.none with accepted := true }

/-- R140, R142: what an accepted clean duty message hands the Standing Monitor. -/
def cleanEvent : ScoreEvent := { ScoreEvent.none with accepted := true, clean := true }

/-- R167: the state after a request that was taken and refused: a four-byte reply and nothing else. -/
def refusedWith (p : Port) (kind tag code : Byte) (s : State) : State :=
  queueReply p [0x04, kind, tag, code] (startInterval p s)

/-- R140, R143, R167: the state after a request that was taken and accepted without a body, t being what its owning
block left: the acceptance is scored and the reply OK queued. -/
def acceptedWith (p : Port) (kind tag : Byte) (e : ScoreEvent) (t : State) : State :=
  queueReply p [0x04, kind, tag, 0x00] (scoreEvent p e t)

/-! ### What a command leaves alone -/

/-- The mode, CONFIG, the profile rows, what is kept of the suppliers, the table pointers, the queue of commands, and
every band row but its two flags are as before. -/
structure Kept (s t : State) : Prop where
  mode : t.mode = s.mode
  config : t.config = s.config
  profiles : t.profiles = s.profiles
  feeders : t.feeders = s.feeders
  pointers : t.pointers = s.pointers
  pending : t.pending = s.pending
  bands : ∀ i, t.band i = { s.band i with noted := (t.band i).noted, steamed := (t.band i).steamed }

/-- The ports' queues are as before, but that the record at port p was taken and this reply joined its outbound queue;
no other port's scores changed. -/
structure Answered (p : Port) (reply : List Byte) (s t : State) : Prop where
  cpis : t.cpis = s.cpis.set p { s.cpi p with interval := 0, outbound := (s.cpi p).outbound ++ [reply] }
  scores : ∀ q, q ≠ p → t.score q = s.score q

/-- R12, R39: a compartment other than k changes by the signals of allocation passes alone, in its state and its
noted-use marker; its plan is as before. -/
def OthersKept (k : Comp) (s t : State) : Prop :=
  ∀ d, d ≠ k → t.plan d = s.plan d
    ∧ t.comp d = { s.comp d with state := (t.comp d).state, noted := (t.comp d).noted }

end Sys2Proof.Machine
end

