-- ==== Sys2Proof/Certificates/Slice0/Obligations.lean ====
section
/-! DEFINITION. The statements for the provers, in the order of the blocks: the queue of commands and power-on, the wire
and the ports, standing, treatments, sensor reports, supplies, permission and breaches, tables, notices, modes and
resets, timers, and the conditions every command keeps. Unless its docstring says otherwise, a statement about a request
is about its being taken on arrival (Served); RequestsThatWaitAreStored is about every request that is not. -/

open Sys2Proof Sys2Proof.Machine

/-! ### Commands, power-on and the wire -/

/-- The model's choice (log 1): a step runs the command at the front of the queue on the state with the queue's rest,
and idles on an empty queue. -/
def Obligations.StepRunsTheFrontCommand : Prop :=
  ∀ (c : Instr) (rest : List Instr) (s : State),
    step { s with pending := c :: rest } = exec c { s with pending := rest }
      ∧ step { s with pending := [] } = .next { s with pending := [] }

/-- R2, R45, R67, R93, R133, R138, R158, R169, R174, R177, R180: the values POWER_ON sets, field by field. The fields the
spec leaves open (logs 4 and 5) are not stated; that the queue of commands is kept is the model's choice (log 1). -/
def Obligations.PowerOnSetsEveryBlock : Prop :=
  ∀ s : State, ∃ t, exec .powerOn s = .next t ∧ t.pending = s.pending ∧ t.mode = .setup
    ∧ t.config =
      { mainsCapacity := 3600, auxReserve := 200, steamPerKw := 25, airPerKw := 40, confirmWindow := 3,
        reportWatch := 10, supplierWatch := 10, doorLimit := 120, doorMax := 8, notedNotices := true, bench := false,
        caps := ⟨⟨true, true⟩, ⟨true, true⟩, ⟨true, true⟩⟩ }
    ∧ (∀ c, t.plan c = [] ∧ t.comp c =
      { state := .empty, profile := 0, step := 0, pause := ⟨false, false, false⟩,
        hold := ⟨false, false, false, false, false, false⟩, heatLimited := false, moistLimited := false, hd := 0,
        md := 0, ws := 0, heatWarned := false, moistWarned := false, lastT := 0, lastH := 0, lastW := 0, prevHeat := 0,
        prevMoist := 0, report := .never, lastSeq := none, baseline := false, wet := false, doorOpen := false,
        doorCount := 0, doorTimer := 0, stepUnits := 0, stepPhase := 0, capUnits := 0, capPhase := 0, watch := 0,
        mdStart := 0, noted := false, restart := none, outcome := .notYet, permitted := ⟨false, false⟩ })
    ∧ (∀ i, t.profile i =
      { present := false, requires := ⟨false, false⟩, tRef := 0, hRef := 0, hHot := 1001, hdLimit := 0, mdLimit := 0,
        wMax := 255, bandBase := 0, bandWidth := 10 })
    ∧ (∀ i, t.band i = { key := .barred, direction := .up, hBound := 0, noted := false, steamed := false })
    ∧ (∀ u, t.supply u =
      { effCap := (match u with
          | .mains => 3400
          | .steam => 0
          | .dryair => 0),
        epoch := 0, offerOut := false, window := 0, entries := [], grants := [] })
    ∧ t.feeders = ⟨⟨0, 0, true, 0, 2⟩, ⟨0, 0, true, 0, 3⟩⟩
    ∧ t.breach = ⟨false, ⟨false, false, false, false, false, false⟩, none, none, none, 0, 0, 0, 0, 0, 0, false⟩
    ∧ (∀ p, t.score p = ⟨0, 0, .good, 0⟩)
    ∧ (∀ p, (∀ n, (t.notice p).pending.get n = none) ∧ (t.notice p).inService = 0 ∧ (t.notice p).enable = false
        ∧ (t.notice p).base = 0 ∧ (t.notice p).line = false
        ∧ ∀ n : Fin 16, (t.notice p).mask.getLsbD n.val = false ↔ n.val ∈ (match p with
          | .panel => [0, 1, 2, 3, 4, 5, 6, 7, 8, 9, 10, 11, 12, 13, 14, 15]
          | .boiler => [15, 13, 12, 11, 10, 8, 2, 1, 0]
          | .dryer => [15, 13, 12, 11, 9, 8, 2, 1, 0]
          | .cabinet => [15, 14, 12, 11, 10, 9, 7, 6, 5, 2, 0]))
    ∧ ∀ p, (t.cpi p).assembly = .idle ∧ (t.cpi p).inbound = [] ∧ (t.cpi p).outbound = [] ∧ (t.cpi p).interval = 1
      ∧ (t.pointer p).spoiled = true

/-- R160, R162: SELECT_WINDOW_OPEN opens the port's window and does nothing else. A window that closes while assembly is
ASSEMBLING cuts the record short: the bytes are dropped, assembly is IDLE, RFS rises by 1 (R139; held in WATCH, R148), no
reply is queued, and no notice is posted unless the standing changes. A window that closes in IDLE or DISCARDING does no
more than close, and a window that is not open does not close. Where the window closes within a byte, the bits clocked in
are dropped, and the outbound byte stays at the head, still to be sent whole. -/
def Obligations.SelectWindowsOpenAndClose : Prop :=
  ∀ (p : Port) (s : State),
    exec (.selectWindowOpen p) s = .next { s with cpis := s.cpis.set p { s.cpi p with selected := true } }
    ∧ ((s.cpi p).selected = false → exec (.selectWindowClose p) s = .next s)
    ∧ ((s.cpi p).selected = true →
      let shut := { s.cpi p with selected := false, assembly := .idle, bits := [] }
      ((∀ bytes, (s.cpi p).assembly ≠ .assembling bytes) →
        exec (.selectWindowClose p) s = .next { s with cpis := s.cpis.set p shut })
      ∧ ∀ bytes, (s.cpi p).assembly = .assembling bytes →
        ∃ t, exec (.selectWindowClose p) s = .next t ∧ t.cpis = s.cpis.set p shut
          ∧ (t.score p).rfs = (if s.mode = .watch then (s.score p).rfs else min 511 ((s.score p).rfs + 1))
          ∧ (∀ q, q ≠ p → t.score q = s.score q)
          ∧ (t.standing p = s.standing p →
              t = { s with cpis := s.cpis.set p shut, scores := s.scores.set p (t.score p) }))

/-- R160: outside a window clocks are ignored. Within one, some clocks of a byte that leave it unfinished keep its bits and
change nothing else but that the head reply, where there is one at the first bit, is partly clocked out. The clock that is
the byte's eighth, in however many parts the byte came, sends the next byte of the head reply, or 0x00 where none stood at
the first bit, and that byte leaves the queue, the reply with its last byte; the byte clocked in goes to assembly. No other
port's CPI is touched, and while assembly is IDLE or DISCARDING (R161) nothing but this port's CPI changes. That a byte
begun with the queue empty stays filler is the model's reading (log 13). -/
def Obligations.ByteExchangeClocksOneByteEachWay : Prop :=
  ∀ (p : Port) (b : Byte) (s : State),
    ((s.cpi p).selected = false → ∀ n, exec (.byteExchange p ⟨b, n⟩) s = .next s)
    ∧ ((s.cpi p).selected = true → ∀ k, k < 8 → (s.cpi p).bits = (List.range k).map (fun i => b.getMsbD i) →
      let going : Bool := if k = 0 then !(s.cpi p).outbound.isEmpty else (s.cpi p).begun
      (∀ n, 1 ≤ n → k + n < 8 →
        exec (.byteExchange p ⟨b <<< k, n⟩) s = .next { s with
          cpis := s.cpis.set p
            { s.cpi p with bits := (List.range (k + n)).map (fun i => b.getMsbD i), begun := going } })
      ∧ ∃ t, exec (.byteExchange p ⟨b <<< k, 8 - k⟩) s = .next t
        ∧ (t.cpi p).bits = [] ∧ (t.cpi p).begun = false ∧ (t.cpi p).selected = true
        ∧ (going = false → (t.cpi p).lastOut = 0x00 ∧ (t.cpi p).outbound = (s.cpi p).outbound
            ∧ (t.cpi p).sent = (s.cpi p).sent)
        ∧ (∀ r rest, going = true → (s.cpi p).outbound = r :: rest → (s.cpi p).sent < r.length →
            (t.cpi p).lastOut = r.getD (s.cpi p).sent 0x00
            ∧ (if (s.cpi p).sent + 1 = r.length then (t.cpi p).outbound = rest ∧ (t.cpi p).sent = 0
              else (t.cpi p).outbound = r :: rest ∧ (t.cpi p).sent = (s.cpi p).sent + 1))
        ∧ (∀ q, q ≠ p → t.cpi q = s.cpi q)
        ∧ ((s.cpi p).assembly = .idle → t = { s with cpis := t.cpis }
            ∧ (t.cpi p).assembly = (if b = 0x00 then .idle else .assembling [b]))
        ∧ ((s.cpi p).assembly = .discarding → t = { s with cpis := t.cpis } ∧ (t.cpi p).assembly = .discarding))

/-- R161, R163: the bytes of a complete record, clocked in from IDLE in one window with room for it, put that record at
the tail of the inbound queue; after a length byte outside 3..16 assembly is DISCARDING, else IDLE. -/
def Obligations.RecordIsAssembledFromItsBytes : Prop :=
  ∀ (p : Port) (r : Record) (s : State), (s.cpi p).selected = true → (s.cpi p).assembly = .idle → (s.cpi p).bits = [] →
    r.len ≠ 0x00 → r.complete = true → (s.cpi p).inboundLength + storedLength r.len ≤ 64 →
    let t := clockIn p ([r.len, r.kind, r.tag] ++ r.body) s
    (t.cpi p).inbound = (s.cpi p).inbound ++ [r]
      ∧ (t.cpi p).assembly = (if 3 ≤ r.len.toNat ∧ r.len.toNat ≤ 16 then .idle else .discarding)
      ∧ (t.cpi p).selected = true ∧ t = { s with cpis := t.cpis } ∧ ∀ q, q ≠ p → t.cpi q = s.cpi q

/-- R161, R163, R164: RECORD_COMPLETE stores a complete record at the tail of the inbound queue where its stored length
fits in 64 bytes. Else the record is dropped whole: nothing is queued, OVERRUN is posted to that port (to no other,
unless the standing changes), RFS rises by 1 (held in WATCH), and while the port is CUT its readmission count becomes 0.
That a record complete in an open window moves assembly on by R161, and leaves it otherwise, is the model's choice (log
2). Within an open window no record completes while assembly is DISCARDING, nor one that does not begin with the bytes
assembled, and a length byte 0x00 starts none: nothing changes. That the bits of a byte partly clocked are left is its
choice too (log 2). -/
def Obligations.CompleteRecordIsStoredOrDropped : Prop :=
  ∀ (p : Port) (r : Record) (s : State),
    (r.len = 0x00 → exec (.recordComplete p r) s = .next s)
    ∧ (r.complete = true → (s.cpi p).selected = true →
        ((s.cpi p).assembly = .discarding
          ∨ ∃ bytes, (s.cpi p).assembly = .assembling bytes ∧ ¬ bytes <+: [r.len, r.kind, r.tag] ++ r.body) →
        exec (.recordComplete p r) s = .next s)
    ∧ (r.complete = true →
        ((s.cpi p).selected = true → (s.cpi p).assembly = .idle
          ∨ ∃ bytes, (s.cpi p).assembly = .assembling bytes ∧ bytes <+: [r.len, r.kind, r.tag] ++ r.body) →
        let moved : Cpi :=
          { s.cpi p with
            assembly :=
              if (s.cpi p).selected then (if 3 ≤ r.len.toNat ∧ r.len.toNat ≤ 16 then .idle else .discarding)
              else (s.cpi p).assembly }
        ((s.cpi p).inboundLength + storedLength r.len ≤ 64 →
          exec (.recordComplete p r) s
            = .next { s with cpis := s.cpis.set p { moved with inbound := (s.cpi p).inbound ++ [r] } })
        ∧ (64 < (s.cpi p).inboundLength + storedLength r.len →
          ∃ t, exec (.recordComplete p r) s = .next t ∧ t.cpis = s.cpis.set p moved
            ∧ Shows t p .overrun compsNone suppliesNone
            ∧ (t.score p).rfs = (if s.mode = .watch then (s.score p).rfs else min 511 ((s.score p).rfs + 1))
            ∧ (s.mode ≠ .watch → s.standing p = .cut → (t.score p).readmission = 0)
            ∧ (t.standing p = s.standing p → ∀ q, q ≠ p → t.notice q = s.notice q)
            ∧ (t.standing p = s.standing p →
                t = { s with cpis := t.cpis, scores := t.scores, notices := t.notices })))

/-- R165: REQUEST_TAKE takes the head record where 32 outbound bytes are free and, under LIMITED, the take interval has
counted a second; the take starts the interval from 0. Else nothing changes. -/
def Obligations.RequestTakeWaitsOrTakes : Prop :=
  ∀ (p : Port) (s : State),
    ((s.cpi p).inbound = [] → exec (.requestTake p) s = .next s)
    ∧ (128 < (s.cpi p).outboundLength + 32 → exec (.requestTake p) s = .next s)
    ∧ (s.standing p = .limited → (s.cpi p).interval = 0 → exec (.requestTake p) s = .next s)
    ∧ ∀ r rest, (s.cpi p).inbound = r :: rest → (s.cpi p).outboundLength + 32 ≤ 128 →
        (s.standing p = .limited → 1 ≤ (s.cpi p).interval) →
        exec (.requestTake p) s
          = .next (handleRecord p r
              { s with cpis := s.cpis.set p { s.cpi p with inbound := rest, interval := 0 } })

/-- R165, R167, R172: a take queues exactly one reply, whatever the record holds: its length byte, the kind byte with
the reply marker, the echoed tag, a status and a body, behind the replies that were queued (after PORTRST and REINIT,
behind a reply partly clocked out, if there is one; that it is so from its first bit on is the model's reading, log 13).
-/
def Obligations.EveryTakeQueuesOneReply : Prop :=
  ∀ (p : Port) (r : Record) (rest : List Record) (s : State), (s.cpi p).inbound = r :: rest → takeReady p s = true →
    ∃ t kept st body, exec (.requestTake p) s = .next t
      ∧ (t.cpi p).outbound = kept ++ [[BitVec.ofNat 8 (body.length + 4), r.kind ||| 0x80, r.tag, st] ++ body]
      ∧ (kept = (s.cpi p).outbound
        ∨ ((r.kind = 0x19 ∨ r.kind = 0x1A)
          ∧ kept = if (s.cpi p).sent = 0 ∧ (s.cpi p).begun = false then [] else (s.cpi p).outbound.take 1))

/-- R161, R163, R164 (and log 2): a request that is not taken on arrival is stored as its record at the tail of the
inbound queue where it fits, whatever port, request, mode and standing; else it is dropped with OVERRUN and no reply. -/
def Obligations.RequestsThatWaitAreStored : Prop :=
  ∀ (p : Port) (tag : Byte) (r : Request) (i : Instr) (s : State), r.row p tag = some i → takesAtOnce p s = false →
    let len := r.body.length + 3
    ((s.cpi p).inboundLength + len ≤ 64 →
      exec i s = .next { s with
        cpis := s.cpis.set p
          { s.cpi p with inbound := (s.cpi p).inbound ++ [⟨BitVec.ofNat 8 len, r.kind, tag, r.body⟩] } })
    ∧ (64 < (s.cpi p).inboundLength + len →
      ∃ t, exec i s = .next t ∧ t.cpis = s.cpis ∧ Shows t p .overrun compsNone suppliesNone)

/-- R171: the record of a request carries that request: every kind byte, every field and every byte order, for every
value of the fields, and every TBLWR image a record can carry. -/
def Obligations.RequestRecordsDecodeToTheirRequests : Prop :=
  ∀ (tag : Byte) (r : Request), (∀ image, r = .tblwr image → 1 ≤ image.length ∧ image.length ≤ 13) →
    (r.record tag).request = some r ∧ (r.record tag).tag = tag ∧ (r.record tag).complete = true

/-! ### The checks of a taken request, and standing -/

/-- R139, R166 step 1, R176: a record that names no request, or whose length its kind does not allow, is answered
MALFORMED and charged, on any port in any standing. With the kind of TBLWR it spoils the port's pointer; that this holds
on every port, and for a length byte outside 3..16 too, is the model's reading of R176 (log 16). That a spoiled pointer
keeps its other fields is the model's choice (log 5). -/
def Obligations.MalformedRecordIsAnsweredAndCharged : Prop :=
  ∀ (p : Port) (r : Record) (s : State), takesAtOnce p s = true → r.complete = true → r.request = none →
    exec (.malformedRecord p r) s
      = .next (queueReply p [0x04, r.kind ||| 0x80, r.tag, 0x10]
          (scoreEvent p ScoreEvent.requestFault
            (if r.kind = 0x13 then spoil p (startInterval p s) else startInterval p s)))

/-- R139, R166 step 2, R176: a request whose kind the port's role may not send is answered ROLE and charged, and reaches
no owning block; a TBLWR so refused spoils the port's pointer. That a spoiled pointer keeps its other fields is the
model's choice (log 5). -/
def Obligations.RequestsOfAnotherRoleAreRefused : Prop :=
  ∀ (p : Port) (tag : Byte) (r : Request) (i : Instr) (s : State), r.row p tag = some i → takesAtOnce p s = true →
    r.kind ∉ roleKinds p →
    exec i s
      = .next (queueReply p [0x04, r.kind ||| 0x80, tag, 0x11]
          (scoreEvent p ScoreEvent.requestFault
            (if r.kind = 0x13 then spoil p (startInterval p s) else startInterval p s)))

/-- R145, R166 step 3, R176: a request of the port's role that R145 does not leave open is answered CUT while the port
is CUT: no fault, no effect, but that a TBLWR so refused spoils the port's pointer. That a spoiled pointer keeps its
other fields is the model's choice (log 5). -/
def Obligations.CutPortsRequestsAreRefused : Prop :=
  ∀ (p : Port) (tag : Byte) (r : Request) (i : Instr) (s : State), r.row p tag = some i → takesAtOnce p s = true →
    s.standing p = .cut → r.kind ∈ roleKinds p → r.kind ∉ cutKinds →
    exec i s
      = .next (queueReply p [0x04, r.kind ||| 0x80, tag, 0x1C]
          (if r.kind = 0x13 then spoil p (startInterval p s) else startInterval p s))

/-- R140: an accepted request of a GOOD or LIMITED port lowers its RFS by the table: 0 stays, 1..127 fall by 1, 128..255
become 127. REINIT's acceptance is not scored (R138), and in WATCH nothing is (R148); that the mode after the handling
decides, so that the MODESET that leaves WATCH is scored, is the model's reading of R148 (log 12). -/
def Obligations.AcceptedRequestLowersRfs : Prop :=
  ∀ (p : Port) (tag : Byte) (r : Request) (i : Instr) (s t : State) (reply : List Byte), r.row p tag = some i →
    takesAtOnce p s = true → s.standing p ≠ .cut → exec i s = .next t → t.mode ≠ .watch → r.kind ≠ 0x19 →
    (t.cpi p).outbound.getLast? = some reply → (reply.getD 3 0xFF = 0x00 ∨ reply.getD 3 0xFF = 0x01) →
    (t.score p).rfs
      = if (s.score p).rfs = 0 then 0 else if (s.score p).rfs ≤ 127 then (s.score p).rfs - 1 else 127

/-- R147: while the CABINET port is CUT, an accepted SENSREP counts one toward readmission and changes no score; the one
that brings the count to 32 sets RFS 0, DFS 0, GOOD and count 0, and STANDING is posted to CABINET and PANEL. A fault
of R139 raises RFS and sets the count to 0. While the PANEL port is CUT, every accepted request counts so, and an answer
that is neither an acceptance nor a fault changes nothing of its scores. (The suppliers' readmission by clean SUPREPs is
stated in SupplierReportIsTaken.) -/
def Obligations.CutCabinetIsReadmittedByThirtyTwoReports : Prop :=
  (∀ (s : State), takesAtOnce .cabinet s = true → s.standing .cabinet = .cut → s.mode ≠ .watch →
    (∀ (tag c seq : Byte) (temp h : Half) (w : Byte) (k : Comp), compOf c = some k → (s.comp k).lastSeq ≠ some seq →
      ∃ t, exec (.sensrep .cabinet tag c seq temp h w) s = .next t
        ∧ ((s.score .cabinet).readmission + 1 < 32 → t.score .cabinet
            = { s.score .cabinet with readmission := (s.score .cabinet).readmission + 1 })
        ∧ (32 ≤ (s.score .cabinet).readmission + 1 → t.score .cabinet = ⟨0, 0, .good, 0⟩
            ∧ Shows t .cabinet .standing compsNone suppliesNone ∧ Shows t .panel .standing compsNone suppliesNone))
    ∧ ∀ r : Record, r.complete = true → r.request = none →
      ∃ t, exec (.malformedRecord .cabinet r) s = .next t
        ∧ (t.score .cabinet).rfs = min 511 ((s.score .cabinet).rfs + 1)
        ∧ (t.score .cabinet).dfs = (s.score .cabinet).dfs ∧ (t.score .cabinet).readmission = 0)
  ∧ ∀ (tag : Byte) (r : Request) (i : Instr) (s : State), r.row .panel tag = some i → takesAtOnce .panel s = true →
      s.standing .panel = .cut → s.mode ≠ .watch → r.kind ∈ roleKinds .panel →
      ∃ t reply, exec i s = .next t ∧ (t.cpi .panel).outbound.getLast? = some reply
        ∧ (reply.getD 3 0xFF = 0x00 ∨ reply.getD 3 0xFF = 0x01 →
          ((s.score .panel).readmission + 1 < 32 → t.score .panel
            = { s.score .panel with readmission := (s.score .panel).readmission + 1 })
          ∧ (32 ≤ (s.score .panel).readmission + 1 → t.score .panel = ⟨0, 0, .good, 0⟩
            ∧ Shows t .panel .standing compsNone suppliesNone))
        ∧ (reply.getD 3 0xFF ≠ 0x00 → reply.getD 3 0xFF ≠ 0x01 → t.score .panel = s.score .panel)

/-! ### Plans and treatments -/

/-- R5: PLNCLR(c) is refused RANGE for c outside 0..2 and BUSY while the compartment runs, in every mode; else the plan
is emptied, the state becomes EMPTY, and everything else of the compartment is kept. -/
def Obligations.PlnclrEmptiesAPlan : Prop :=
  ∀ (s : State) (tag c : Byte), Served .panel s →
    exec (.plnclr .panel tag c) s = .next (match compOf c with
      | none => refusedWith .panel 0x81 tag 0x14 s
      | some k =>
        if s.running k = true then refusedWith .panel 0x81 tag 0x13 s
        else acceptedWith .panel 0x81 tag acceptedEvent
          { startInterval .panel s with
            plans := s.plans.set k []
            comps := s.comps.set k { s.comp k with state := .empty } })

/-- R4: PLNADD(c, step) is refused RANGE, BUSY, FULL, then RANGE, in that order and in every mode; else the step record
joins the tail of the plan, an EMPTY compartment becomes LOADED and a LOADED or ENDED one keeps its state. -/
def Obligations.PlnaddAppendsAStep : Prop :=
  ∀ (s : State) (tag c codes cls : Byte) (duration : Half) (target : Tri) (cap : Half) (want min : Byte),
    Served .panel s →
    exec (.plnadd .panel tag c codes cls duration target cap want min) s = .next (match compOf c with
      | none => refusedWith .panel 0x82 tag 0x14 s
      | some k =>
        if s.running k = true then refusedWith .panel 0x82 tag 0x13 s
        else if 12 ≤ (s.plan k).length then refusedWith .panel 0x82 tag 0x19 s
        else
          match stepOf codes cls duration target cap want min with
          | none => refusedWith .panel 0x82 tag 0x14 s
          | some st => acceptedWith .panel 0x82 tag acceptedEvent
            { startInterval .panel s with
              plans := s.plans.set k (s.plan k ++ [st])
              comps := s.comps.set k
                { s.comp k with state := if (s.comp k).state = .empty then .loaded else (s.comp k).state } })

/-- R3, R4, R171: the step record that a PLNADD body makes: its kind, unit, end and policy are those of byte 4; its end is
legal for its kind; a duration is present exactly for WALL and GATED, a target for MOIST and DRYTO, a cap for every end
but WALL, each within its range; a claim is present exactly where the kind is not DWELL, its want clamped to the supply
maximum and its min in 1..want; and its last outcome is NONE. And every body whose codes are listed, whose end is legal for
its kind and whose present fields lie within their ranges makes a record. -/
def Obligations.AppendedStepIsAsSentAndInRange : Prop :=
  (∀ (codes cls : Byte) (duration : Half) (target : Tri) (cap : Half) (want min : Byte) (st : StepRec),
    stepOf codes cls duration target cap want min = some st →
    (st.kind.code = codes.toNat / 64 ∧ st.unit.code = codes.toNat / 16 % 4 ∧ st.ending.code = codes.toNat / 4 % 4
      ∧ st.policy.code = codes.toNat % 2 ∧ st.lastOutcome = .notYet)
    ∧ (match st.kind with
      | .steam => st.ending ≠ .dryto
      | .dwell => st.ending = .wall
      | .dry => st.ending ≠ .moist
      | .cool => st.ending ≠ .moist)
    ∧ (if st.ending = .wall ∨ st.ending = .gated then st.duration = some duration.toNat ∧ 1 ≤ duration.toNat
      else st.duration = none)
    ∧ (match st.ending with
      | .moist => st.target = some target.toNat ∧ 1 ≤ target.toNat
      | .dryto => st.target = some target.toNat ∧ target.toNat ≤ 1000
      | .wall => st.target = none
      | .gated => st.target = none)
    ∧ (if st.ending = .wall then st.cap = none else st.cap = some cap.toNat ∧ 1 ≤ cap.toNat)
    ∧ (match st.kind with
      | .dwell => st.claim = none
      | .steam => st.claim = some ⟨cls.toNat, Nat.min want.toNat 120, min.toNat⟩ ∧ cls.toNat ≤ 7 ∧ 1 ≤ min.toNat
          ∧ min.toNat ≤ Nat.min want.toNat 120
      | .dry => st.claim = some ⟨cls.toNat, want.toNat, min.toNat⟩ ∧ cls.toNat ≤ 7 ∧ 1 ≤ min.toNat
          ∧ min.toNat ≤ want.toNat
      | .cool => st.claim = some ⟨cls.toNat, want.toNat, min.toNat⟩ ∧ cls.toNat ≤ 7 ∧ 1 ≤ min.toNat
          ∧ min.toNat ≤ want.toNat))
  ∧ ∀ (codes cls : Byte) (duration : Half) (target : Tri) (cap : Half) (want min : Byte),
      let kind := codes.toNat / 64
      let ending := codes.toNat / 4 % 4
      codes.toNat / 16 % 4 ≠ 3 →
      (kind = 0 → ending ≠ 3) → (kind = 1 → ending = 0) → (kind = 2 → ending ≠ 2) → (kind = 3 → ending ≠ 2) →
      (ending ≤ 1 → 1 ≤ duration.toNat) → (ending = 2 → 1 ≤ target.toNat) → (ending = 3 → target.toNat ≤ 1000) →
      (ending ≠ 0 → 1 ≤ cap.toNat) →
      (kind ≠ 1 → cls.toNat ≤ 7 ∧ 1 ≤ min.toNat
        ∧ min.toNat ≤ (if kind = 0 then Nat.min want.toNat 120 else want.toNat)) →
      (stepOf codes cls duration target cap want min).isSome = true

/-- R6, R31: BIND(c, p) makes its checks in the order RANGE, BUSY, p = 0, RANGE, ABSENT, UNSUITED, in every mode; an
accepted BIND writes the bound profile and changes no other field. -/
def Obligations.BindChecksAndBinds : Prop :=
  ∀ (s : State) (tag c prof : Byte), Served .panel s →
    exec (.bind .panel tag c prof) s = .next (match compOf c with
      | none => refusedWith .panel 0x83 tag 0x14 s
      | some k =>
        let bound (i : Fin 16) : State := acceptedWith .panel 0x83 tag acceptedEvent
          { startInterval .panel s with comps := s.comps.set k { s.comp k with profile := i } }
        if s.running k = true then refusedWith .panel 0x83 tag 0x13 s
        else if prof = 0x00 then bound 0
        else if h : prof.toNat < 16 then
          if (s.profile ⟨prof.toNat, h⟩).present = false then refusedWith .panel 0x83 tag 0x15 s
          else if (s.profile ⟨prof.toNat, h⟩).requires.steam = true ∧ (s.config.caps.get k).steam = false
            ∨ (s.profile ⟨prof.toNat, h⟩).requires.warm = true ∧ (s.config.caps.get k).warm = false then
            refusedWith .panel 0x83 tag 0x16 s
          else bound ⟨prof.toNat, h⟩
        else refusedWith .panel 0x83 tag 0x14 s)

/-- R8, R9, R10, R11, R21, R22: TSTART(c) is refused RANGE, MODE, BUSY, UNBOUND, ABSENT, EMPTY or UNSUITED by the first
check that fails, in that order, and changes nothing. Else it zeroes the account, the flags and the outcomes and enters
step 0: PAUSED with cause DOOR where the door is recorded OPEN, else ACTIVE for DWELL, else HELD with cause STALE, since
the report state is AWAITING. No supply, breach or other compartment is touched. -/
def Obligations.TstartChecksAndEntersStepZero : Prop :=
  ∀ (s : State) (tag c : Byte), Served .panel s → EntriesWhileRunning s →
    match compOf c with
    | none => exec (.tstart .panel tag c) s = .next (refusedWith .panel 0x84 tag 0x14 s)
    | some k =>
      if s.mode ≠ .service then exec (.tstart .panel tag c) s = .next (refusedWith .panel 0x84 tag 0x12 s)
      else if s.running k = true then exec (.tstart .panel tag c) s = .next (refusedWith .panel 0x84 tag 0x13 s)
      else if (s.comp k).profile = 0 then exec (.tstart .panel tag c) s = .next (refusedWith .panel 0x84 tag 0x17 s)
      else if (s.profile (s.comp k).profile).present = false then
        exec (.tstart .panel tag c) s = .next (refusedWith .panel 0x84 tag 0x15 s)
      else
        match s.plan k with
        | [] => exec (.tstart .panel tag c) s = .next (refusedWith .panel 0x84 tag 0x18 s)
        | st :: rest =>
          if ∃ st' ∈ st :: rest, (st'.kind = .steam ∧ (s.config.caps.get k).steam = false)
              ∨ (st'.kind = .dry ∧ (s.config.caps.get k).warm = false) then
            exec (.tstart .panel tag c) s = .next (refusedWith .panel 0x84 tag 0x16 s)
          else
            ∃ t, exec (.tstart .panel tag c) s = .next t ∧ Answered .panel [0x04, 0x84, tag, 0x00] s t ∧ Kept s t
              ∧ (∀ d, d ≠ k → t.comp d = s.comp d ∧ t.plan d = s.plan d) ∧ t.supplies = s.supplies
              ∧ t.breach = s.breach
              ∧ t.plan k = (st :: rest).map (fun x => { x with lastOutcome := .notYet })
              ∧ (if (s.comp k).doorOpen = true then
                  (t.comp k).state = .paused ∧ (t.comp k).restart = some ⟨0, 0, 0, .door⟩
                    ∧ (t.comp k).hold = ⟨false, false, false, false, false, false⟩
                else if st.kind = .dwell then
                  (t.comp k).state = .active ∧ (t.comp k).restart = none
                    ∧ (t.comp k).hold = ⟨false, false, false, false, false, false⟩
                else
                  (t.comp k).state = .held ∧ (t.comp k).restart = some ⟨0, 0, 0, .hold⟩
                    ∧ (t.comp k).hold.stale = true
                    ∧ ∀ p, Shows t p .held (compsOne k) suppliesNone)
              ∧ t.comp k =
                { s.comp k with
                  step := 0, hd := 0, md := 0, ws := 0, heatWarned := false, moistWarned := false,
                  heatLimited := false, moistLimited := false, outcome := .notYet, doorCount := 0, noted := false,
                  report := .awaiting, watch := 0, baseline := false, wet := false, permitted := ⟨false, false⟩,
                  doorTimer := 0, stepUnits := 0, stepPhase := 0, capUnits := 0, capPhase := 0, mdStart := 0,
                  pause := ⟨false, (s.comp k).doorOpen, false⟩
                  state := (t.comp k).state, restart := (t.comp k).restart, hold := (t.comp k).hold }

/-- R18, R19: TPAUSE(c) is refused RANGE or STATE; else PANEL joins the pause causes. Where they were empty the entry is
withdrawn, the hold causes are emptied, the restart record is written with cause PANEL, and the state becomes PAUSED,
with the timers held; where they were not, nothing else changes. -/
def Obligations.TpausePausesARunningStep : Prop :=
  ∀ (s : State) (tag c : Byte), Served .panel s →
    (compOf c = none → exec (.tpause .panel tag c) s = .next (refusedWith .panel 0x85 tag 0x14 s))
    ∧ ∀ k, compOf c = some k →
      (s.running k = false → exec (.tpause .panel tag c) s = .next (refusedWith .panel 0x85 tag 0x1A s))
      ∧ (s.running k = true → ∃ t, exec (.tpause .panel tag c) s = .next t
          ∧ Answered .panel [0x04, 0x85, tag, 0x00] s t ∧ Kept s t ∧ OthersKept k s t ∧ t.breach = s.breach
          ∧ t.plan k = s.plan k
          ∧ (if (s.comp k).pause = ⟨false, false, false⟩ then
              t.comp k =
                { s.comp k with
                  pause := ⟨true, false, false⟩, hold := ⟨false, false, false, false, false, false⟩,
                  restart := some ⟨(s.comp k).step, (s.comp k).stepUnits, (s.comp k).stepPhase, .panel⟩
                  state := .paused, noted := (t.comp k).noted }
              ∧ ∀ sup, s.curSupply k = some sup → t.entry sup (.comp k) = none
            else t.comp k = { s.comp k with pause := { (s.comp k).pause with panel := true } }
              ∧ t.supplies = s.supplies))

/-- R11, R18, R20, R21, R73: TRESUME(c) is refused RANGE or STATE; else PANEL leaves the pause causes. Where they do not
become empty by it, nothing else changes. Where they do, the step is re-entered under its policy: ACTIVE for DWELL, WAITING
with an entry at the tail of its supply's list where the supply is permitted (bench off), HELD where it is not. The entry
has code class × 2, one more while the compartment is restrained, the step's min and want, nothing in force, and is warm for
a DRY step. -/
def Obligations.TresumeReentersTheStep : Prop :=
  ∀ (s : State) (tag c : Byte), Served .panel s →
    (compOf c = none → exec (.tresume .panel tag c) s = .next (refusedWith .panel 0x86 tag 0x14 s))
    ∧ ∀ k, compOf c = some k →
      (s.running k = false → exec (.tresume .panel tag c) s = .next (refusedWith .panel 0x86 tag 0x1A s))
      ∧ (s.running k = true → (s.comp k).pause ≠ ⟨true, false, false⟩ →
          exec (.tresume .panel tag c) s = .next (acceptedWith .panel 0x86 tag acceptedEvent
            { startInterval .panel s with
              comps := s.comps.set k
                { s.comp k with pause := { (s.comp k).pause with panel := false } } }))
      ∧ ∀ st, s.running k = true → (s.comp k).pause = ⟨true, false, false⟩ → s.curStep k = some st →
          ∃ t, exec (.tresume .panel tag c) s = .next t ∧ Answered .panel [0x04, 0x86, tag, 0x00] s t ∧ Kept s t
            ∧ OthersKept k s t
            ∧ (t.comp k).pause = ⟨false, false, false⟩ ∧ (t.comp k).step = (s.comp k).step
            ∧ (t.comp k).capUnits = (s.comp k).capUnits ∧ (t.comp k).capPhase = (s.comp k).capPhase
            ∧ (if st.policy = .repeatStep then
                (t.comp k).stepUnits = 0 ∧ (t.comp k).stepPhase = 0 ∧ (t.comp k).mdStart = (s.comp k).md
              else (t.comp k).stepUnits = (s.comp k).stepUnits ∧ (t.comp k).stepPhase = (s.comp k).stepPhase
                ∧ (t.comp k).mdStart = (s.comp k).mdStart)
            ∧ (st.kind = .dwell → (t.comp k).state = .active ∧ (t.comp k).restart = none
                ∧ t.supplies = s.supplies)
            ∧ ∀ sup, st.kind.supply = some sup →
              (∀ cl, permits s k sup = true → s.config.bench = false → st.claim = some cl →
                s.entry sup (.comp k) = none →
                let restrained := (s.comp k).heatWarned || (s.comp k).moistWarned
                (t.comp k).state = .waiting ∧ (t.comp k).restart = none
                  ∧ (t.supply sup).entries.map Entry.claimant
                    = (s.supply sup).entries.map Entry.claimant ++ [.comp k]
                  ∧ ∃ o, t.entry sup (.comp k) = some
                      ⟨.comp k, cl.cls * 2 + (if restrained then 1 else 0), restrained, cl.min, cl.want, 0, o,
                        decide (st.kind = .dry)⟩)
              ∧ (permits s k sup = false →
                (t.comp k).state = .held ∧ (t.comp k).hold = removalCauses s k sup
                  ∧ (t.comp k).restart
                    = some ⟨(s.comp k).step, (t.comp k).stepUnits, (t.comp k).stepPhase, .hold⟩)

/-- R16, R17: TSTOP(c) is refused RANGE or STATE, in every mode; else the treatment ends with outcome STOPPED: the
entry is withdrawn, the pause and hold causes are emptied, the current step's last outcome is STOPPED, the state is
ENDED, everything else of the context is kept, and TREATEND and STEPEND are posted. R38, R39: where the withdrawn
entry was IN_FORCE, the in-force period ends: the noted-use marker is cleared, and NOTED is posted where it was set
and NOTED notices are on; an entry not in force leaves the marker. -/
def Obligations.TstopEndsATreatment : Prop :=
  ∀ (s : State) (tag c : Byte), Served .panel s →
    (compOf c = none → exec (.tstop .panel tag c) s = .next (refusedWith .panel 0x87 tag 0x14 s))
    ∧ ∀ k, compOf c = some k →
      (s.running k = false → exec (.tstop .panel tag c) s = .next (refusedWith .panel 0x87 tag 0x1A s))
      ∧ (s.running k = true → ∃ t, exec (.tstop .panel tag c) s = .next t
          ∧ Answered .panel [0x04, 0x87, tag, 0x00] s t ∧ Kept s t ∧ OthersKept k s t ∧ t.breach = s.breach
          ∧ t.comp k =
            { s.comp k with
              pause := ⟨false, false, false⟩, hold := ⟨false, false, false, false, false, false⟩,
              outcome := .stopped, state := .ended, noted := (t.comp k).noted }
          ∧ t.plan k = setOutcome (s.plan k) (s.comp k).step .stopped
          ∧ (∀ sup, s.curSupply k = some sup → t.entry sup (.comp k) = none)
          ∧ (∀ sup e, s.curSupply k = some sup → s.entry sup (.comp k) = some e →
            (e.inForce = 0 → (t.comp k).noted = (s.comp k).noted)
            ∧ (0 < e.inForce → (t.comp k).noted = false
              ∧ ((s.comp k).noted = true → s.config.notedNotices = true →
                ∀ p, Shows t p .noted (compsOne k) (suppliesOne sup))))
          ∧ ∀ p, Shows t p .treatend (compsOne k) suppliesNone ∧ Shows t p .stepend (compsOne k) suppliesNone)

/-- R23: DOORREP(c, OPEN) is refused RANGE for c outside 0..2. A door already recorded OPEN changes nothing; that of a
compartment not running becomes OPEN and nothing else changes. Else the door count rises by 1, the door timer starts
from 0, DOOR is posted, and the compartment is PAUSED with cause DOOR, or, where the count reaches door_max, its
treatment ends DOOR_COUNT. -/
def Obligations.DoorOpeningPausesOrEnds : Prop :=
  ∀ (s : State) (tag c : Byte), Served .cabinet s → EntriesWhileRunning s →
    (compOf c = none → exec (.doorrepOpen .cabinet tag c) s = .next (refusedWith .cabinet 0x8A tag 0x14 s))
    ∧ ∀ k, compOf c = some k →
      ((s.comp k).doorOpen = true →
        exec (.doorrepOpen .cabinet tag c) s
          = .next (acceptedWith .cabinet 0x8A tag acceptedEvent (startInterval .cabinet s)))
      ∧ ((s.comp k).doorOpen = false → s.running k = false →
        exec (.doorrepOpen .cabinet tag c) s = .next (acceptedWith .cabinet 0x8A tag acceptedEvent
          { startInterval .cabinet s with comps := s.comps.set k { s.comp k with doorOpen := true } }))
      ∧ ((s.comp k).doorOpen = false → s.running k = true →
        ∃ t, exec (.doorrepOpen .cabinet tag c) s = .next t ∧ Answered .cabinet [0x04, 0x8A, tag, 0x00] s t ∧ Kept s t
          ∧ (t.comp k).doorOpen = true ∧ (t.comp k).doorCount = (s.comp k).doorCount + 1
          ∧ (t.comp k).doorTimer = 0 ∧ (∀ p, Shows t p .door (compsOne k) suppliesNone)
          ∧ (∀ sup, s.curSupply k = some sup → (s.comp k).pause = ⟨false, false, false⟩ →
              t.entry sup (.comp k) = none)
          ∧ (t.standing .cabinet = s.standing .cabinet → OthersKept k s t ∧ t.breach = s.breach)
          ∧ (if s.config.doorMax ≤ (s.comp k).doorCount + 1 then
              (t.comp k).state = .ended ∧ (t.comp k).outcome = .doorCount
                ∧ (t.comp k).pause = ⟨false, false, false⟩
                ∧ t.plan k = setOutcome (s.plan k) (s.comp k).step .stopped
            else if (s.comp k).pause = ⟨false, false, false⟩ then
              (t.comp k).state = .paused ∧ (t.comp k).pause = ⟨false, true, false⟩
                ∧ (t.comp k).restart
                  = some ⟨(s.comp k).step, (s.comp k).stepUnits, (s.comp k).stepPhase, .door⟩
            else (t.comp k).state = (s.comp k).state
              ∧ (t.comp k).pause = { (s.comp k).pause with door := true }
              ∧ (t.comp k).restart = (s.comp k).restart))

/-- R24: DOORREP(c, CLOSED) is refused RANGE for c outside 0..2. A door already recorded CLOSED changes nothing; that of
a compartment not running becomes CLOSED and nothing else changes. For a running one DOOR leaves the pause causes and
the door timer is cleared; while another cause remains nothing else changes, and where none remains the step is
resumed under its policy (R20): a DWELL step becomes ACTIVE, and, while the CABINET's standing does not change by it, any
other is WAITING with its entry (R11, R73) where its supply is permitted (bench off), and HELD where it is not. -/
def Obligations.DoorClosingResumes : Prop :=
  ∀ (s : State) (tag c : Byte), Served .cabinet s → EntriesWhileRunning s →
    (compOf c = none → exec (.doorrepClosed .cabinet tag c) s = .next (refusedWith .cabinet 0x8A tag 0x14 s))
    ∧ ∀ k, compOf c = some k →
      ((s.comp k).doorOpen = false →
        exec (.doorrepClosed .cabinet tag c) s
          = .next (acceptedWith .cabinet 0x8A tag acceptedEvent (startInterval .cabinet s)))
      ∧ ((s.comp k).doorOpen = true → s.running k = false →
        exec (.doorrepClosed .cabinet tag c) s = .next (acceptedWith .cabinet 0x8A tag acceptedEvent
          { startInterval .cabinet s with comps := s.comps.set k { s.comp k with doorOpen := false } }))
      ∧ ((s.comp k).doorOpen = true → s.running k = true →
          ((s.comp k).pause.panel = true ∨ (s.comp k).pause.mode = true) →
        exec (.doorrepClosed .cabinet tag c) s = .next (acceptedWith .cabinet 0x8A tag acceptedEvent
          { startInterval .cabinet s with
            comps := s.comps.set k
              { s.comp k with
                doorOpen := false, doorTimer := 0, pause := { (s.comp k).pause with door := false } } }))
      ∧ ∀ st, (s.comp k).doorOpen = true → s.running k = true → (s.comp k).pause = ⟨false, true, false⟩ →
          s.curStep k = some st →
        ∃ t, exec (.doorrepClosed .cabinet tag c) s = .next t ∧ Answered .cabinet [0x04, 0x8A, tag, 0x00] s t
          ∧ (t.comp k).pause = ⟨false, false, false⟩ ∧ (t.comp k).doorOpen = false ∧ (t.comp k).doorTimer = 0
          ∧ (t.standing .cabinet = s.standing .cabinet ∨ st.kind = .dwell →
            (st.policy = .continueStep → (t.comp k).stepUnits = (s.comp k).stepUnits
              ∧ (t.comp k).stepPhase = (s.comp k).stepPhase)
            ∧ (st.policy = .repeatStep → (t.comp k).stepUnits = 0 ∧ (t.comp k).stepPhase = 0))
          ∧ (st.kind = .dwell → (t.comp k).state = .active ∧ (t.comp k).restart = none)
          ∧ (t.standing .cabinet = s.standing .cabinet → ∀ sup, st.kind.supply = some sup →
            (∀ cl, permits s k sup = true → s.config.bench = false → st.claim = some cl →
              let restrained := (s.comp k).heatWarned || (s.comp k).moistWarned
              (t.comp k).state = .waiting ∧ (t.comp k).restart = none
                ∧ (t.supply sup).entries.map Entry.claimant
                  = (s.supply sup).entries.map Entry.claimant ++ [.comp k]
                ∧ ∃ o, t.entry sup (.comp k) = some
                    ⟨.comp k, cl.cls * 2 + (if restrained then 1 else 0), restrained, cl.min, cl.want, 0, o,
                      decide (st.kind = .dry)⟩)
            ∧ (permits s k sup = false →
              (t.comp k).state = .held ∧ (t.comp k).hold = removalCauses s k sup
                ∧ (t.comp k).restart
                  = some ⟨(s.comp k).step, (t.comp k).stepUnits, (t.comp k).stepPhase, .hold⟩))

/-! ### Step, cap and door timers -/

/-- R13, R15, R111 to R113: where the step timer counts and its next second completes the duration of a WALL or GATED
step, the step ends DONE; where the cap timer counts and its next second completes the cap, the step ends CAPPED. STEPEND
is posted, and the treatment ends COMPLETE after the last step and else moves past this one. The second of that timer is
the same event (log 3). -/
def Obligations.StepAndCapTimerExpiriesEndTheStep : Prop :=
  ∀ (s : State) (c : Comp) (st : StepRec), s.curStep c = some st →
    let ended (o : StepOutcome) (t : State) : Prop :=
      Kept s t ∧ t.scores = s.scores ∧ t.cpis = s.cpis
      ∧ ((t.plan c)[(s.comp c).step]?).map StepRec.lastOutcome = some o
      ∧ (∀ p, Shows t p .stepend (compsOne c) suppliesNone)
      ∧ ((s.comp c).step + 1 = (s.plan c).length →
          (t.comp c).state = .ended ∧ (t.comp c).outcome = .complete ∧ OthersKept c s t ∧ t.breach = s.breach)
      ∧ ((s.comp c).step + 1 < (s.plan c).length → (s.comp c).step < (t.comp c).step)
    (∀ d, st.duration = some d →
      ((st.ending = .wall ∧ ((s.comp c).state = .waiting ∨ (s.comp c).state = .active))
        ∨ (st.ending = .gated ∧ (s.comp c).state = .active)) →
      (s.comp c).stepPhase < st.unit.seconds →
      (s.comp c).stepUnits * st.unit.seconds + (s.comp c).stepPhase + 1 = d * st.unit.seconds →
      ∃ t, exec (.stepTimerExpiry c) s = .next t ∧ exec (.timerSecondEnd (.step c)) s = .next t ∧ ended .done t)
    ∧ ∀ k, st.cap = some k → st.ending ≠ .wall →
      ((s.comp c).state = .waiting ∨ (s.comp c).state = .active ∨ (s.comp c).state = .held) →
      (s.comp c).capPhase < st.unit.seconds →
      (s.comp c).capUnits * st.unit.seconds + (s.comp c).capPhase + 1 = k * st.unit.seconds →
      ∃ t, exec (.capTimerExpiry c) s = .next t ∧ exec (.timerSecondEnd (.cap c)) s = .next t ∧ ended .capped t

/-- R16, R24, R116: a running compartment whose door is OPEN and whose door timer's next second reaches door_limit ends
its treatment DOOR_TIMEOUT, the timer keeping door_limit for reading; the second of that timer is the same event
(log 3). -/
def Obligations.DoorTimerExpiryEndsTheTreatment : Prop :=
  ∀ (s : State) (c : Comp), s.running c = true → (s.comp c).doorOpen = true →
    (s.comp c).doorTimer + 1 = s.config.doorLimit →
    ∃ t, exec (.doorTimerExpiry c) s = .next t ∧ exec (.timerSecondEnd (.door c)) s = .next t
      ∧ Kept s t ∧ OthersKept c s t ∧ t.scores = s.scores ∧ t.cpis = s.cpis ∧ t.breach = s.breach
      ∧ t.comp c =
        { s.comp c with
          doorTimer := s.config.doorLimit, pause := ⟨false, false, false⟩,
          hold := ⟨false, false, false, false, false, false⟩, outcome := .doorTimeout, state := .ended,
          noted := (t.comp c).noted }
      ∧ t.plan c = setOutcome (s.plan c) (s.comp c).step .stopped
      ∧ ∀ p, Shows t p .treatend (compsOne c) suppliesNone ∧ Shows t p .stepend (compsOne c) suppliesNone

/-- R111 to R113, R116, R117, R120, R121, R165: a second of a counting timer that does not bring it to its expiry value
adds one second to it (the confirm window loses one; the take interval saturates at 1) and changes nothing else. -/
def Obligations.TimerSecondCountsOneSecond : Prop :=
  ∀ s : State,
    (∀ c st, s.curStep c = some st →
      ((s.comp c).state = .active ∨ ((s.comp c).state = .waiting ∧ st.ending ≠ .gated)) →
      (∀ d, st.duration = some d → (s.comp c).stepUnits + 1 < d
        ∨ ((s.comp c).stepUnits < d ∧ (s.comp c).stepPhase + 1 < st.unit.seconds)) →
      ((st.ending = .wall ∨ st.ending = .gated) ∧ st.duration.isSome = true ∨
        ((st.ending = .moist ∨ st.ending = .dryto) ∧ (s.comp c).stepUnits < 65535)) →
      exec (.timerSecondEnd (.step c)) s = .next { s with
        comps := s.comps.set c
          (if (s.comp c).stepPhase + 1 < st.unit.seconds then
          { s.comp c with stepPhase := (s.comp c).stepPhase + 1 }
        else { s.comp c with stepUnits := (s.comp c).stepUnits + 1, stepPhase := 0 }) })
    ∧ (∀ c st k, s.curStep c = some st →
      ((s.comp c).state = .waiting ∨ (s.comp c).state = .active ∨ (s.comp c).state = .held) → st.ending ≠ .wall →
      st.cap = some k →
      ((s.comp c).capUnits + 1 < k
        ∨ ((s.comp c).capUnits < k ∧ (s.comp c).capPhase + 1 < st.unit.seconds)) →
      exec (.timerSecondEnd (.cap c)) s = .next { s with
        comps := s.comps.set c
          (if (s.comp c).capPhase + 1 < st.unit.seconds then
          { s.comp c with capPhase := (s.comp c).capPhase + 1 }
        else { s.comp c with capUnits := (s.comp c).capUnits + 1, capPhase := 0 }) })
    ∧ (∀ c, s.running c = true → (s.comp c).doorOpen = true → (s.comp c).doorTimer + 1 < s.config.doorLimit →
      exec (.timerSecondEnd (.door c)) s = .next { s with
        comps := s.comps.set c
          { s.comp c with doorTimer := (s.comp c).doorTimer + 1 } })
    ∧ (∀ c, s.running c = true → ((s.comp c).report = .awaiting ∨ (s.comp c).report = .fresh) →
      (s.comp c).watch + 1 < s.config.reportWatch →
      exec (.timerSecondEnd (.reportWatch c)) s = .next { s with
        comps := s.comps.set c
          { s.comp c with watch := (s.comp c).watch + 1 } })
    ∧ (∀ u, s.mode ≠ .setup → (s.feeder u).silent = false → (s.feeder u).watch + 1 < s.config.supplierWatch →
      exec (.timerSecondEnd (.statusWatch u)) s = .next { s with
        feeders := s.feeders.set u
          { s.feeder u with watch := (s.feeder u).watch + 1 } })
    ∧ (∀ u, (s.supply u).offerOut = true → 2 ≤ (s.supply u).window →
      exec (.timerSecondEnd (.confirmWindow u)) s = .next { s with
        supplies := s.supplies.set u
          { s.supply u with window := (s.supply u).window - 1 } })
    ∧ ∀ p, exec (.timerSecondEnd (.takeInterval p)) s = .next { s with
      cpis := s.cpis.set p
        { s.cpi p with interval := min 1 ((s.cpi p).interval + 1) } }

/-- R110, R112, R113, R116, R117, R120, R121: a stopped timer counts nothing and expires never: its second and its expiry
row change nothing. -/
def Obligations.StoppedTimersDoNothing : Prop :=
  ∀ s : State,
    (∀ c, (s.running c = false ∨ (s.comp c).state = .held ∨ (s.comp c).state = .paused) →
      exec (.timerSecondEnd (.step c)) s = .next s ∧ exec (.stepTimerExpiry c) s = .next s)
    ∧ (∀ c st, s.curStep c = some st → st.ending = .gated → (s.comp c).state = .waiting →
      exec (.timerSecondEnd (.step c)) s = .next s ∧ exec (.stepTimerExpiry c) s = .next s)
    ∧ (∀ c, (s.running c = false ∨ (s.comp c).state = .paused
        ∨ ∃ st, s.curStep c = some st ∧ st.ending = .wall) →
      exec (.timerSecondEnd (.cap c)) s = .next s ∧ exec (.capTimerExpiry c) s = .next s)
    ∧ (∀ c, (s.running c = false ∨ (s.comp c).doorOpen = false) →
      exec (.timerSecondEnd (.door c)) s = .next s ∧ exec (.doorTimerExpiry c) s = .next s)
    ∧ (∀ c, (s.running c = false ∨ (s.comp c).report = .stale ∨ (s.comp c).report = .never) →
      exec (.timerSecondEnd (.reportWatch c)) s = .next s ∧ exec (.reportWatchExpiry c) s = .next s)
    ∧ (∀ u, (s.mode = .setup ∨ (s.feeder u).silent = true) →
      exec (.timerSecondEnd (.statusWatch u)) s = .next s ∧ exec (.statusWatchExpiry u) s = .next s)
    ∧ ∀ u, (s.supply u).offerOut = false →
      exec (.timerSecondEnd (.confirmWindow u)) s = .next s ∧ exec (.confirmWindowExpiry u) s = .next s


/-! ### Sensor reports -/

/-- R47, R48, R49, R66: SENSREP, CUT or not, is refused RANGE for c outside 0..2, and answered DUP with no other effect
where seq repeats the compartment's last. Any other report of a compartment that is not running is stored, clamped, and
not accounted: nothing else of the compartment changes. -/
def Obligations.ReportsAreCheckedAndStored : Prop :=
  ∀ (s : State) (tag c seq : Byte) (temp h : Half) (w : Byte), takesAtOnce .cabinet s = true →
    (compOf c = none →
      exec (.sensrep .cabinet tag c seq temp h w) s = .next (refusedWith .cabinet 0x89 tag 0x14 s))
    ∧ ∀ k, compOf c = some k →
      ((s.comp k).lastSeq = some seq →
        exec (.sensrep .cabinet tag c seq temp h w) s = .next (refusedWith .cabinet 0x89 tag 0x02 s))
      ∧ ((s.comp k).lastSeq ≠ some seq → s.running k = false →
        exec (.sensrep .cabinet tag c seq temp h w) s = .next (acceptedWith .cabinet 0x89 tag cleanEvent
          { startInterval .cabinet s with
            comps := s.comps.set k
              { s.comp k with
                lastT := max (-400) (min 1250 temp.toInt), lastH := min 1000 h.toNat, lastW := w.toNat,
                lastSeq := some seq, report := .fresh, watch := 0 } }))

/-- R50 to R57, R124, R127: the account of an accepted report of a running compartment. A baseline report takes dt 0,
one that arrives STALE 20, any other the report watch's count up to 20; heat is charged the larger of the two excesses
times dt, by half again where H reaches h_hot, moisture the larger excess times dt; wet-seconds are counted while W
exceeds w_max; the readings are stored, the report state is FRESH and the report watch 0; and the permitted set is
evaluated on what the report leaves. R37, R38: where the compartment has an amount in force, the band the report finds
is marked steamed (STEAM), and noted, with the compartment's noted-use marker, where its key notes use of the supply.
R39: where the report ends that in-force period, the marker is cleared, and NOTED is posted if it was set. While bench
is off, no other band is marked; that the marker is so while bench is off is said of states whose supplies are safe
and whose entries belong to their compartments' steps. -/
def Obligations.RunningReportIsAccounted : Prop :=
  ∀ (s : State) (tag c seq : Byte) (temp h : Half) (w : Byte) (k : Comp), takesAtOnce .cabinet s = true →
    compOf c = some k → (s.comp k).lastSeq ≠ some seq → s.running k = true →
    let x := s.comp k
    let prof := s.profile x.profile
    let tC : Int := max (-400) (min 1250 temp.toInt)
    let hC := min 1000 h.toNat
    let eT := (tC - prof.tRef).toNat
    let eH := hC - prof.hRef
    let dt := if x.baseline = false then 0 else if x.report = .stale then 20 else min 20 x.watch
    ∃ t, exec (.sensrep .cabinet tag c seq temp h w) s = .next t ∧ Kept s t
      ∧ Answered .cabinet [0x04, 0x89, tag, 0x00] s t
      ∧ (t.comp k).hd = min 16777215 (x.hd + max x.prevHeat eT * dt * (if prof.hHot ≤ hC then 24 else 16) / 16)
      ∧ (t.comp k).md = min 16777215 (x.md + max x.prevMoist eH * dt)
      ∧ (t.comp k).ws = (if prof.wMax < w.toNat then min 65535 (x.ws + dt) else x.ws)
      ∧ (t.comp k).wet = decide (prof.wMax < w.toNat)
      ∧ (t.comp k).prevHeat = eT ∧ (t.comp k).prevMoist = eH ∧ (t.comp k).baseline = true
      ∧ (t.comp k).lastT = tC ∧ (t.comp k).lastH = hC ∧ (t.comp k).lastW = w.toNat
      ∧ (t.comp k).lastSeq = some seq ∧ (t.comp k).report = .fresh ∧ (t.comp k).watch = 0
      ∧ (t.running k = true → (t.comp k).permitted = ⟨permits t k .steam, permits t k .dryair⟩)
      ∧ (t.standing .cabinet = s.standing .cabinet → OthersKept k s t)
      ∧ (let held (y : State) (sup : Supply) : Prop := ∃ e, y.entry sup (.comp k) = some e ∧ 0 < e.inForce
        let finds (i : Fin 128) : Prop := i.val = x.profile.val * 8 + (t.curBandIndex k).val
        let notes (i : Fin 128) (sup : Supply) : Prop :=
          (s.band i).key = .bothNote ∨ (sup = .steam ∧ (s.band i).key = .steamNote)
            ∨ (sup = .dryair ∧ (s.band i).key = .airNote)
        (∀ i sup, s.curSupply k = some sup → held s sup → finds i →
          (sup = .steam → (t.band i).steamed = true) ∧ (notes i sup → (t.band i).noted = true)
          ∧ (s.config.bench = false → SuppliesSafe s → EntriesWhileRunning s →
            (held t sup → ((t.comp k).noted = true ↔ x.noted = true ∨ notes i sup))
            ∧ (¬ held t sup → (t.comp k).noted = false
              ∧ (x.noted = true ∨ notes i sup → s.config.notedNotices = true →
                ∀ p, Shows t p .noted (compsOne k) (suppliesOne sup)))))
        ∧ (s.config.bench = false → ∀ i,
          ((t.band i).steamed = true →
            (s.band i).steamed = true ∨ (s.curSupply k = some .steam ∧ held s .steam ∧ finds i))
          ∧ ((t.band i).noted = true →
            (s.band i).noted = true ∨ ∃ sup, s.curSupply k = some sup ∧ held s sup ∧ finds i ∧ notes i sup)))

/-- R58, R59, R61, R62, R133, R135: at an accepted report of a running compartment a warn-passed flag is set where the
dose has reached limit − floor(limit / 8) of a nonzero limit, with DOSEWARN, and a limit flag where it has reached the
limit. A crossing freezes a clear breach record with its causes and the report's snapshot, and BREACH is posted; a
frozen record is only marked later. The rest is said where nothing is crossed. R14: a WAITING, ACTIVE or HELD MOIST
step whose moisture since its start has reached its target, and a DRYTO step at whose H the target is reached, end
DONE, with STEPEND, and the treatment ends COMPLETE or moves on; no other step ends, and the plan is kept. R129: a
HELD step whose supply the report's evaluation permits goes to WAITING with a new entry, by its policy (R21); one
still not permitted stays HELD, its causes replaced by those that removed the supply. R126, R128, R130, R134: a
WAITING or ACTIVE step whose supply is no longer permitted is HELD with the causes that removed it; it is a breach,
written with those causes, the supply, the band and the readings, exactly when the supply was in the stored permitted
set and one of the causes is BARRED, KEY, RANGE or WET. That the crossing, and not a breach of the step TSQ enters by
it, fills the record (log 8), and that moist_limited is set where the heat rule has just ended the treatment (log 9),
are the model's readings. -/
def Obligations.ReportWarnsAndCrossesLimits : Prop :=
  ∀ (s : State) (tag c seq : Byte) (temp h : Half) (w : Byte) (k : Comp), takesAtOnce .cabinet s = true →
    compOf c = some k → (s.comp k).lastSeq ≠ some seq → s.running k = true →
    let x := s.comp k
    let prof := s.profile x.profile
    ∃ t, exec (.sensrep .cabinet tag c seq temp h w) s = .next t
      ∧ (let y := t.comp k
        let heat := prof.hdLimit ≠ 0 ∧ x.heatLimited = false ∧ prof.hdLimit ≤ y.hd
        let moist := prof.mdLimit ≠ 0 ∧ x.moistLimited = false ∧ prof.mdLimit ≤ y.md
        let met (st : StepRec) : Prop := (x.state = .waiting ∨ x.state = .active ∨ x.state = .held)
          ∧ ((st.ending = .moist ∧ ∃ target, st.target = some target ∧ target ≤ y.md - x.mdStart)
            ∨ (st.ending = .dryto ∧ ∃ target, st.target = some target ∧ min 1000 h.toNat ≤ target))
        (y.heatWarned = true ↔
          x.heatWarned = true ∨ (prof.hdLimit ≠ 0 ∧ prof.hdLimit - prof.hdLimit / 8 ≤ y.hd))
        ∧ (y.moistWarned = true ↔
          x.moistWarned = true ∨ (prof.mdLimit ≠ 0 ∧ prof.mdLimit - prof.mdLimit / 8 ≤ y.md))
        ∧ ((x.heatWarned = false ∧ y.heatWarned = true) ∨ (x.moistWarned = false ∧ y.moistWarned = true) →
          ∀ p, Shows t p .dosewarn (compsOne k) suppliesNone)
        ∧ (y.heatLimited = true ↔ x.heatLimited = true ∨ heat)
        ∧ (y.moistLimited = true ↔ x.moistLimited = true ∨ moist)
        ∧ (heat ∨ moist →
          (s.breach.frozen = true → t.breach = { s.breach with later := true })
          ∧ (s.breach.frozen = false →
            t.breach =
              { frozen := true, causes := ⟨false, false, false, false, decide heat, decide moist⟩, comp := some k,
                supply := none, band := none, t := max (-400) (min 1250 temp.toInt), h := min 1000 h.toNat,
                w := w.toNat, hd := y.hd, md := y.md, step := x.step, later := t.breach.later }
            ∧ ∀ p, Shows t p .breach (compsOne k) suppliesNone))
        ∧ (¬ heat → ¬ moist → ∀ st, s.curStep k = some st →
          (¬ met st → y.step = x.step ∧ t.plan k = s.plan k)
          ∧ (met st → ((t.plan k)[x.step]?).map StepRec.lastOutcome = some .done
            ∧ (∀ p, Shows t p .stepend (compsOne k) suppliesNone)
            ∧ (x.step + 1 = (s.plan k).length → y.state = .ended ∧ y.outcome = .complete)
            ∧ (x.step + 1 < (s.plan k).length → x.step < y.step)))
        ∧ (¬ heat → ¬ moist → t.standing .cabinet = s.standing .cabinet → ∀ st sup, s.curStep k = some st →
          st.kind.supply = some sup → ¬ met st → x.state = .held →
          (permits t k sup = false → y.state = .held ∧ y.hold = removalCauses t k sup ∧ y.restart = x.restart
            ∧ t.breach = s.breach)
          ∧ (∀ cl, permits t k sup = true → s.config.bench = false → st.claim = some cl →
            s.entry sup (.comp k) = none →
            let restrained := y.heatWarned || y.moistWarned
            y.state = .waiting ∧ y.hold = ⟨false, false, false, false, false, false⟩ ∧ y.restart = none
            ∧ (st.policy = .repeatStep → y.stepUnits = 0 ∧ y.stepPhase = 0)
            ∧ (st.policy = .continueStep → y.stepUnits = x.stepUnits ∧ y.stepPhase = x.stepPhase)
            ∧ (t.supply sup).entries.map Entry.claimant = (s.supply sup).entries.map Entry.claimant ++ [.comp k]
            ∧ ∃ o, t.entry sup (.comp k) = some
                ⟨.comp k, cl.cls * 2 + (if restrained then 1 else 0), restrained, cl.min, cl.want, 0, o,
                  decide (st.kind = .dry)⟩))
        ∧ (¬ heat → ¬ moist → t.standing .cabinet = s.standing .cabinet → ∀ st sup, s.curStep k = some st →
          st.kind.supply = some sup → ¬ met st →
          (x.state = .waiting ∨ x.state = .active) → permits t k sup = false →
          let g := removalCauses t k sup
          let judged := x.permitted.has sup = true
            ∧ (g.barred = true ∨ g.key = true ∨ g.range = true ∨ g.wet = true)
          y.state = .held ∧ y.hold = g ∧ y.step = x.step
          ∧ (¬ judged → t.breach = s.breach)
          ∧ (judged → s.breach.frozen = true → t.breach = { s.breach with later := true })
          ∧ (judged → s.breach.frozen = false →
            t.breach =
              { frozen := true, causes := ⟨g.barred, g.range, g.key, g.wet, false, false⟩, comp := some k,
                supply := some sup,
                band := (if g.barred = true ∨ g.key = true ∨ g.range = true then some (t.curBandIndex k) else none),
                t := max (-400) (min 1250 temp.toInt), h := min 1000 h.toNat, w := w.toNat, hd := y.hd, md := y.md,
                step := x.step, later := false }
            ∧ ∀ p, Shows t p .breach (compsOne k) (suppliesOne sup))))

/-- R16, R25, R26, R54, R55, R61, R62: a report whose accounted dose crosses the heat limit in a step other than COOL
ends that step HEAT_STOP and skips to the next COOL step, or, where there is none, marks the rest SKIPPED and ends the
treatment HEAT_LIMIT; one that finds the moisture limit crossed, and not the heat limit, in a STEAM step ends it
MOIST_STOP and moves past it. -/
def Obligations.LimitCrossingsMoveTheTreatment : Prop :=
  ∀ (s : State) (tag c seq : Byte) (temp h : Half) (w : Byte) (k : Comp) (st : StepRec),
    takesAtOnce .cabinet s = true → compOf c = some k → (s.comp k).lastSeq ≠ some seq → s.running k = true →
    s.curStep k = some st →
    let x := s.comp k
    let prof := s.profile x.profile
    let hC := min 1000 h.toNat
    let eT := ((max (-400) (min 1250 temp.toInt)) - prof.tRef).toNat
    let dt := if x.baseline = false then 0 else if x.report = .stale then 20 else min 20 x.watch
    let hd := min 16777215 (x.hd + max x.prevHeat eT * dt * (if prof.hHot ≤ hC then 24 else 16) / 16)
    let md := min 16777215 (x.md + max x.prevMoist (hC - prof.hRef) * dt)
    (prof.hdLimit ≠ 0 → x.heatLimited = false → prof.hdLimit ≤ hd → st.kind ≠ .cool →
      ∃ t, exec (.sensrep .cabinet tag c seq temp h w) s = .next t ∧ Kept s t
        ∧ (∀ p, Shows t p .stepend (compsOne k) suppliesNone)
        ∧ ((t.plan k)[x.step]?).map StepRec.lastOutcome = some .heatStop
        ∧ (∀ j, x.step < j → j < (s.plan k).length → (∀ i st', x.step < i → i ≤ j → (s.plan k)[i]? = some st' →
            st'.kind ≠ .cool) → ((t.plan k)[j]?).map StepRec.lastOutcome = some .skipped)
        ∧ ((∀ i st', x.step < i → (s.plan k)[i]? = some st' → st'.kind ≠ .cool) →
            (t.comp k).state = .ended ∧ (t.comp k).outcome = .heatLimit
            ∧ (t.comp k).pause = ⟨false, false, false⟩
            ∧ (t.comp k).hold = ⟨false, false, false, false, false, false⟩
            ∧ (∀ sup, s.curSupply k = some sup → t.entry sup (.comp k) = none)
            ∧ ∀ p, Shows t p .treatend (compsOne k) suppliesNone)
        ∧ ∀ j st', x.step < j → (s.plan k)[j]? = some st' → st'.kind = .cool →
            (∀ i st'', x.step < i → i < j → (s.plan k)[i]? = some st'' → st''.kind ≠ .cool) → j ≤ (t.comp k).step)
    ∧ ((prof.hdLimit = 0 ∨ x.heatLimited = true ∨ hd < prof.hdLimit) → prof.mdLimit ≠ 0 → x.moistLimited = false →
        prof.mdLimit ≤ md → st.kind = .steam →
      ∃ t, exec (.sensrep .cabinet tag c seq temp h w) s = .next t ∧ Kept s t
        ∧ (∀ p, Shows t p .stepend (compsOne k) suppliesNone)
        ∧ ((t.plan k)[x.step]?).map StepRec.lastOutcome = some .moistStop
        ∧ (x.step + 1 = (s.plan k).length → (t.comp k).state = .ended ∧ (t.comp k).outcome = .complete)
        ∧ (x.step + 1 < (s.plan k).length → x.step < (t.comp k).step))

/-- R16, R117, R118, R128, R131, R141: a report watch that counts and whose next second reaches report_watch makes the
compartment STALE, posts STALE and charges CABINET 8 (held in WATCH). A WAITING or ACTIVE step that draws a supply is
HELD with cause STALE and loses its entry; a PAUSED compartment and a DWELL step are not held. The second of that
watch is the same event (log 3). -/
def Obligations.ReportWatchExpiryMakesStale : Prop :=
  ∀ (s : State) (c : Comp), EntriesWhileRunning s → s.running c = true →
    ((s.comp c).report = .awaiting ∨ (s.comp c).report = .fresh) →
    (s.comp c).watch + 1 = s.config.reportWatch →
    ∃ t, exec (.reportWatchExpiry c) s = .next t ∧ exec (.timerSecondEnd (.reportWatch c)) s = .next t
      ∧ Kept s t ∧ t.cpis = s.cpis ∧ t.plans = s.plans
      ∧ (t.comp c).report = .stale ∧ (t.comp c).watch = s.config.reportWatch
      ∧ (t.comp c).permitted = ⟨false, false⟩ ∧ (t.comp c).baseline = (s.comp c).baseline
      ∧ (t.comp c).hd = (s.comp c).hd ∧ (t.comp c).md = (s.comp c).md
      ∧ (∀ p, Shows t p .stale (compsOne c) suppliesNone)
      ∧ (t.score .cabinet).dfs
        = (if s.mode = .watch then (s.score .cabinet).dfs else min 511 ((s.score .cabinet).dfs + 8))
      ∧ (∀ q, q ≠ .cabinet → t.score q = s.score q)
      ∧ ((s.comp c).state = .paused ∨ s.curSupply c = none → (t.comp c).state = (s.comp c).state)
      ∧ ∀ sup, s.curSupply c = some sup → ((s.comp c).state = .waiting ∨ (s.comp c).state = .active) →
          (t.comp c).state = .held ∧ (t.comp c).hold.stale = true ∧ t.entry sup (.comp c) = none
          ∧ (t.comp c).restart = some ⟨(s.comp c).step, (s.comp c).stepUnits, (s.comp c).stepPhase, .hold⟩
          ∧ ∀ p, Shows t p .held (compsOne c) (suppliesOne sup)

/-! ### Supplies -/

/-- R69, R70, R76, R77, R141, R142: SUPREP, CUT or not. In SETUP only the clamped capacity is stored. In SERVICE and WATCH
the capacity, the draw, a restarted status watch and the cleared silent flag are stored; the supply's effective capacity
is then min(reported, floor(g × per kW / 1000)), 0 while the port is CUT; and DFS falls by 1, or rises by 8 where the draw
exceeds g + floor(g / 20) + 50 (held in WATCH). R147: while the port is CUT, a SUPREP in SERVICE without overdraw keeps the
scores and counts one toward readmission, and the one that brings the count to 32 sets RFS 0, DFS 0, GOOD and count 0 and
posts STANDING; an overdraw sets the count to 0. -/
def Obligations.SupplierReportIsTaken : Prop :=
  ∀ (s : State) (u : Supplier) (tag capacity : Byte) (draw : Half), takesAtOnce u.port s = true →
    let cap := min capacity.toNat (match u with
      | .boiler => 120
      | .dryer => 255)
    let kw := match u with
      | .boiler => s.config.steamPerKw
      | .dryer => s.config.airPerKw
    let g := s.mainsInForce u
    (s.mode = .setup →
      exec (.suprep u.port tag capacity draw) s = .next (acceptedWith u.port 0x8B tag acceptedEvent
        { startInterval u.port s with feeders := s.feeders.set u { s.feeder u with reported := cap } }))
    ∧ (s.mode ≠ .setup →
      ∃ t, exec (.suprep u.port tag capacity draw) s = .next t ∧ Answered u.port [0x04, 0x8B, tag, 0x00] s t
        ∧ t.mode = s.mode ∧ t.config = s.config ∧ t.profiles = s.profiles ∧ t.pointers = s.pointers
        ∧ t.plans = s.plans ∧ t.breach = s.breach
        ∧ t.feeders = s.feeders.set u
            { s.feeder u with reported := cap, draw := draw.toNat, silent := false, watch := 0 }
        ∧ (t.supply u.supply).effCap
          = (if t.standing u.port = .cut then 0
            else min (min cap (t.mainsInForce u * kw / 1000)) (match u with
              | .boiler => 120
              | .dryer => 255))
        ∧ (s.mode = .watch → t.scores = s.scores)
        ∧ (s.mode = .service → g + g / 20 + 50 < draw.toNat →
            (t.score u.port).dfs = min 511 ((s.score u.port).dfs + 8)
            ∧ (s.standing u.port = .cut → (t.score u.port).readmission = 0))
        ∧ (s.mode = .service → draw.toNat ≤ g + g / 20 + 50 → s.standing u.port ≠ .cut →
            (t.score u.port).dfs = (s.score u.port).dfs - 1)
        ∧ (s.mode = .service → draw.toNat ≤ g + g / 20 + 50 → s.standing u.port = .cut →
            ((s.score u.port).readmission + 1 < 32 → t.score u.port
              = { s.score u.port with readmission := (s.score u.port).readmission + 1 })
            ∧ (32 ≤ (s.score u.port).readmission + 1 → t.score u.port = ⟨0, 0, .good, 0⟩
              ∧ Shows t u.port .standing compsNone (suppliesOne u.supply)
              ∧ Shows t .panel .standing compsNone (suppliesOne u.supply))))

/-- R79, R81, R82: PWRREQ(min, want) is refused MODE, RANGE or STATE by the first check that fails. Else a port without a
MAINS entry is given one at the tail of the list and a port with one keeps its slot and its code; the entry has the min
and the want sent, the want clamped to 9,999 and raised to min. On an empty list, with bench off, want within capacity and
the standing as before, the pass offers the whole want under a new epoch and starts the window. Stated for scores that give
their standing (StandingsRight, kept by every command: EveryCommandKeepsLinesAndStandings). -/
def Obligations.PwrreqChecksAndClaims : Prop :=
  ∀ (s : State) (u : Supplier) (tag : Byte) (min' want' : Half), Served u.port s → StandingsRight s →
    (s.mode ≠ .service → exec (.pwrreq u.port tag min' want') s = .next (refusedWith u.port 0x8C tag 0x12 s))
    ∧ (s.mode = .service → (min'.toNat = 0 ∨ 9999 < min'.toNat) →
      exec (.pwrreq u.port tag min' want') s = .next (refusedWith u.port 0x8C tag 0x14 s))
    ∧ (s.mode = .service → 1 ≤ min'.toNat → min'.toNat ≤ 9999 →
      ((s.feeder u).silent = true →
        exec (.pwrreq u.port tag min' want') s = .next (refusedWith u.port 0x8C tag 0x1A s))
      ∧ ((s.feeder u).silent = false →
        let want := max min'.toNat (min want'.toNat 9999)
        let code := (s.feeder u).priority * 2 + (if s.standing u.port = .limited then 1 else 0)
        ∃ t, exec (.pwrreq u.port tag min' want') s = .next t ∧ Answered u.port [0x04, 0x8C, tag, 0x00] s t ∧ Kept s t
          ∧ t.plans = s.plans ∧ t.breach = s.breach
          ∧ (t.supply .mains).entries.map Entry.claimant
            = (s.supply .mains).entries.map Entry.claimant
              ++ (if (s.entry .mains (.supplier u)).isSome = true then [] else [.supplier u])
          ∧ (∃ e, t.entry .mains (.supplier u) = some e ∧ e.min = min'.toNat ∧ e.want = want
            ∧ (t.standing u.port = s.standing u.port →
                (∀ e', s.entry .mains (.supplier u) = some e' → e.code = e'.code ∧ e.restrained = e'.restrained)
                ∧ (s.entry .mains (.supplier u) = none →
                    e.code = code ∧ e.restrained = decide (s.standing u.port = .limited))))
          ∧ ((s.supply .mains).entries = [] → s.config.bench = false → want ≤ (s.supply .mains).effCap →
              t.standing u.port = s.standing u.port →
              (t.supply .mains).entries
                = [⟨.supplier u, code, decide (s.standing u.port = .limited), min'.toNat, want, 0, some want, false⟩]
              ∧ (t.supply .mains).epoch = (s.supply .mains).epoch + 1 ∧ (t.supply .mains).offerOut = true
              ∧ (t.supply .mains).window = s.config.confirmWindow
              ∧ ∀ p, Shows t p .mainsmap compsNone (suppliesOne .mains))))

/-- R75, R83, R91: PWRREL, in every mode, is answered NONE where the port holds no MAINS entry. Else the entry leaves the
list, the later ones moving up; where it held an amount in force, the supplier's supply is left with effective capacity 0;
and where it held any amount, MAINSMAP is posted. -/
def Obligations.PwrrelGivesUpTheMainsEntry : Prop :=
  ∀ (s : State) (u : Supplier) (tag : Byte), Served u.port s →
    (s.entry .mains (.supplier u) = none →
      exec (.pwrrel u.port tag) s = .next (refusedWith u.port 0x8D tag 0x03 s))
    ∧ ∀ e, s.entry .mains (.supplier u) = some e →
      ∃ t, exec (.pwrrel u.port tag) s = .next t ∧ Answered u.port [0x04, 0x8D, tag, 0x00] s t ∧ Kept s t
        ∧ t.plans = s.plans ∧ t.breach = s.breach
        ∧ t.entry .mains (.supplier u) = none
        ∧ (t.supply .mains).entries.map Entry.claimant
          = ((s.supply .mains).entries.map Entry.claimant).filter (fun cl => cl != .supplier u)
        ∧ (0 < e.inForce → (t.supply u.supply).effCap = 0)
        ∧ (0 < e.inForce ∨ e.offered.isSome = true → ∀ p, Shows t p .mainsmap compsNone (suppliesOne .mains))

/-- R69, R70, R84: MAINSSET(W), in every mode, writes W clamped to 9,999 to mains_capacity, leaves the MAINS effective
capacity at max(0, mains_capacity − aux_reserve), and is answered OK. Where that is the value already held, nothing
else changes. Where it changes the capacity (bench off), a pass runs, said whole for a list of two entries in either
order. R86: amounts in force beyond the capacity are taken above the minimum first, from the higher code, at equal
codes from the newer grant, and then from the other; where the minimums themselves do not fit, the first in shed order
is taken whole. R87: claims not served are offered in serve order (lower code first, then list order) their want, else
what is free if it reaches their min. R88: a claim whose min does not fit preempts a higher code above its min; a
restrained one, an equal or lower code, or too little above the minimums preempts nothing, and no part is offered.
R89: what stays free raises the amounts in force, as offers, in serve order. R86, R90, R94: SHED is posted where a
holding fell, and else not. A pass that changed an amount advances the epoch, raises the offer flag, restarts the
window and posts MAINSMAP; one that changed none keeps the epoch. -/
def Obligations.MainssetSetsTheAllowance : Prop :=
  ∀ (s : State) (tag : Byte) (w : Half), Served .panel s →
    let cfg := { s.config with mainsCapacity := min w.toNat 9999 }
    (∃ t, exec (.mainsset .panel tag w) s = .next t ∧ Answered .panel [0x04, 0x8F, tag, 0x00] s t ∧ t.config = cfg
      ∧ (t.supply .mains).effCap = min (min w.toNat 9999 - s.config.auxReserve) 9999
      ∧ (t.supply .mains).entries.map Entry.claimant = (s.supply .mains).entries.map Entry.claimant
      ∧ t.mode = s.mode ∧ t.profiles = s.profiles ∧ t.feeders = s.feeders ∧ t.pointers = s.pointers
      ∧ t.plans = s.plans ∧ t.breach = s.breach
      ∧ ∀ k, t.comp k = { s.comp k with state := (t.comp k).state, noted := (t.comp k).noted })
    ∧ (min (min w.toNat 9999 - s.config.auxReserve) 9999 = (s.supply .mains).effCap →
      exec (.mainsset .panel tag w) s
        = .next (acceptedWith .panel 0x8F tag acceptedEvent { startInterval .panel s with config := cfg }))
    ∧ ∀ a b : Entry,
      let r := s.supply .mains
      let cap := min (min w.toNat 9999 - s.config.auxReserve) 9999
      s.config.bench = false → cap ≠ r.effCap → a.claimant ≠ b.claimant → a.amountsRight → b.amountsRight →
      r.entries = [a, b] ∨ r.entries = [b, a] →
      let leaves (a' b' : Entry) : Prop :=
        ∃ t, exec (.mainsset .panel tag w) s = .next t
          ∧ (t.supply .mains).entries = r.entries.map (fun e => if e.claimant = a.claimant then a' else b')
          ∧ ((t.supply .mains).entries = r.entries → (t.supply .mains).epoch = r.epoch)
          ∧ ((t.supply .mains).entries ≠ r.entries → (t.supply .mains).epoch = r.epoch + 1
            ∧ (t.supply .mains).offerOut = (a'.offered.isSome || b'.offered.isSome)
            ∧ (t.supply .mains).window = (if (t.supply .mains).offerOut = true then s.config.confirmWindow else 0)
            ∧ ∀ p, Shows t p .mainsmap compsNone (suppliesOne .mains))
          ∧ (a'.held < a.held ∨ b'.held < b.held → ∀ p, Shows t p .shed compsNone (suppliesOne .mains))
          ∧ (a.held ≤ a'.held → b.held ≤ b'.held →
            ∀ p, (t.notice p).pending.get Channel.shed.num = (s.notice p).pending.get Channel.shed.num)
      let total := a.inForce + b.inForce
      let serve (e : Entry) (free : Nat) : Entry :=
        { e with offered := if e.want ≤ free then some e.want else if e.min ≤ free then some free else none }
      let raise (e : Entry) (free : Nat) : Entry :=
        { e with
          offered :=
            if e.inForce < e.want ∧ 0 < free then some (e.inForce + min (e.want - e.inForce) free) else none }
      ((a.code < b.code ∨ (a.code = b.code ∧ r.grants = [a.claimant, b.claimant])) → a.offered = none →
          b.offered = none → 0 < a.inForce → 0 < b.inForce →
        (a.min + b.min ≤ cap → cap < total →
          let cut := min (total - cap) (b.inForce - b.min)
          leaves { a with inForce := a.inForce - (total - cap - cut) } { b with inForce := b.inForce - cut })
        ∧ (a.min ≤ cap → cap < a.min + b.min →
          leaves
            { a with
              inForce := a.min, offered := if a.min < min a.want cap then some (min a.want cap) else none }
            { b with inForce := 0 }))
      ∧ ((a.code < b.code ∨ (a.code = b.code ∧ r.entries = [a, b])) → a.offered = none → b.offered = none →
        (0 < a.inForce → 0 < b.inForce → total ≤ cap →
          let a' := raise a (cap - total)
          leaves a' (raise b (cap - total - (a'.held - a.inForce))))
        ∧ (a.inForce = 0 → b.inForce = 0 → leaves (serve a cap) (serve b (cap - (serve a cap).held))))
      ∧ (a.offered = none → a.inForce = a.want → b.inForce = 0 → (b.offered = none ∨ cap < a.want + b.held) →
          a.want ≤ cap → cap < a.want + b.want →
        (b.min ≤ cap - a.want → leaves a { b with offered := some (cap - a.want) })
        ∧ (cap - a.want < b.min → b.restrained = false → b.code < a.code → a.min + b.min ≤ cap →
          leaves { a with inForce := cap - b.min } { b with offered := some b.min })
        ∧ (cap - a.want < b.min → (b.restrained = true ∨ a.code ≤ b.code ∨ cap < a.min + b.min) →
          leaves a { b with offered := none }))

/-- R96, R99, R107, R139: CONFIRM(supply, epoch) is answered RANGE, ROLE (charged), NONE with bench on, OLDEPOCH, or NONE
where no offer stands that the sender may confirm, by the first check that fails, and then changes no amount. -/
def Obligations.ConfirmMakesItsChecksInOrder : Prop :=
  ∀ (s : State) (u : Supplier) (tag sup : Byte) (epoch : Half), Served u.port s →
    (supplyOf sup = none → exec (.confirm u.port tag sup epoch) s = .next (refusedWith u.port 0x8E tag 0x14 s))
    ∧ ∀ k, supplyOf sup = some k →
      (k ≠ .mains → k ≠ u.supply →
        exec (.confirm u.port tag sup epoch) s
          = .next (queueReply u.port [0x04, 0x8E, tag, 0x11]
              (scoreEvent u.port ScoreEvent.requestFault (startInterval u.port s))))
      ∧ (k = .mains ∨ k = u.supply →
        (s.config.bench = true →
          exec (.confirm u.port tag sup epoch) s = .next (refusedWith u.port 0x8E tag 0x03 s))
        ∧ (s.config.bench = false → epoch ≠ (s.supply k).epoch →
          exec (.confirm u.port tag sup epoch) s = .next (refusedWith u.port 0x8E tag 0x04 s))
        ∧ (s.config.bench = false → epoch = (s.supply k).epoch →
          (if k = .mains then ∀ e, s.entry .mains (.supplier u) = some e → e.offered = none
            else ∀ e ∈ (s.supply k).entries, e.offered = none) →
          exec (.confirm u.port tag sup epoch) s = .next (refusedWith u.port 0x8E tag 0x03 s)))

/-- R95, R97, R98, R105: a CONFIRM that passes its checks moves offered amounts into force: of STEAM or DRYAIR all of
the supply's, of MAINS the sender's own; the epoch stays. The offer flag is cleared and the window stops where no
offer stands any more; a WAITING compartment whose amount was 0 becomes ACTIVE; the MAP notice is posted; and a
supplier's new mains share sets its supply's effective capacity. R37, R38: a compartment whose amount leaves 0 begins
an in-force period: its current band is marked steamed for STEAM, and noted where its key notes use of the supply, the
compartment's noted-use marker with it; no other band and no other marker changes. What depends on the sender's
standing is stated where that is unchanged. -/
def Obligations.ConfirmMovesOffersIntoForce : Prop :=
  ∀ (s : State) (u : Supplier) (tag sup : Byte) (epoch : Half), Served u.port s → s.config.bench = false →
    (supplyOf sup = some u.supply → epoch = (s.supply u.supply).epoch →
      (∃ e ∈ (s.supply u.supply).entries, e.offered.isSome = true) →
      ∃ t, exec (.confirm u.port tag sup epoch) s = .next t ∧ Answered u.port [0x04, 0x8E, tag, 0x00] s t ∧ Kept s t
        ∧ t.plans = s.plans ∧ t.breach = s.breach
        ∧ (∀ p, Shows t p (match u with
            | .boiler => .steammap
            | .dryer => .airmap) compsNone (suppliesOne u.supply))
        ∧ (t.standing u.port = s.standing u.port →
            t.supplies = s.supplies.set u.supply
              { s.supply u.supply with
                entries := (s.supply u.supply).entries.map fun e =>
                  { e with inForce := e.offered.getD e.inForce, offered := none },
                offerOut := false, window := 0 }
            ∧ (∀ c, t.comp c = { s.comp c with state := (t.comp c).state, noted := (t.comp c).noted })
            ∧ (∀ c e, e ∈ (s.supply u.supply).entries → e.claimant = .comp c → e.inForce = 0 →
                e.offered.isSome = true → (s.comp c).state = .waiting → (t.comp c).state = .active)
            ∧ (let starts (c : Comp) : Prop :=
                ∃ e ∈ (s.supply u.supply).entries, e.claimant = .comp c ∧ e.inForce = 0 ∧ e.offered.isSome = true
              let finds (c : Comp) (i : Fin 128) : Prop :=
                i.val = (s.comp c).profile.val * 8 + (s.curBandIndex c).val
              let notes (i : Fin 128) : Prop :=
                (s.band i).key = .bothNote ∨ (u = .boiler ∧ (s.band i).key = .steamNote)
                  ∨ (u = .dryer ∧ (s.band i).key = .airNote)
              (∀ i, (t.band i).steamed = true
                ↔ (s.band i).steamed = true ∨ (u = .boiler ∧ ∃ c, starts c ∧ finds c i))
              ∧ (∀ i, (t.band i).noted = true
                ↔ (s.band i).noted = true ∨ (notes i ∧ ∃ c, starts c ∧ finds c i))
              ∧ ∀ c, (t.comp c).noted = true
                ↔ (s.comp c).noted = true ∨ (starts c ∧ ∃ i, finds c i ∧ notes i))))
    ∧ ∀ e o, supplyOf sup = some .mains → epoch = (s.supply .mains).epoch →
        s.entry .mains (.supplier u) = some e → e.offered = some o → e.inForce < o →
      ∃ t, exec (.confirm u.port tag sup epoch) s = .next t ∧ Answered u.port [0x04, 0x8E, tag, 0x00] s t ∧ Kept s t
        ∧ t.plans = s.plans ∧ t.breach = s.breach
        ∧ (∀ p, Shows t p .mainsmap compsNone (suppliesOne .mains))
        ∧ (t.standing u.port = s.standing u.port →
            t.entry .mains (.supplier u) = some { e with inForce := o, offered := none }
            ∧ (∀ v, v ≠ u → t.entry .mains (.supplier v) = s.entry .mains (.supplier v))
            ∧ (t.supply .mains).epoch = (s.supply .mains).epoch
            ∧ ((∃ e' ∈ (s.supply .mains).entries, e'.claimant ≠ .supplier u ∧ e'.offered.isSome = true) →
                (t.supply .mains).offerOut = (s.supply .mains).offerOut
                ∧ (t.supply .mains).window = (s.supply .mains).window)
            ∧ ((∀ e' ∈ (s.supply .mains).entries, e'.claimant ≠ .supplier u → e'.offered = none) →
                (t.supply .mains).offerOut = false ∧ (t.supply .mains).window = 0)
            ∧ ((s.feeder u).silent = false → (t.supply u.supply).effCap
                = min (min (s.feeder u).reported (o * (match u with
                  | .boiler => s.config.steamPerKw
                  | .dryer => s.config.airPerKw) / 1000)) (match u with
                  | .boiler => 120
                  | .dryer => 255)))

/-- R71, R108, R172: ALLOCRD(supply), from any port in any standing, is refused RANGE for a supply outside 0..2; else the
reply holds the supply, its epoch, effective capacity, flags and window, and its entries in slot order, and the
acceptance is all that changes. -/
def Obligations.AllocrdRepliesWithTheView : Prop :=
  ∀ (s : State) (p : Port) (tag sup : Byte), takesAtOnce p s = true →
    (3 ≤ sup.toNat → exec (.allocrd p tag sup) s = .next (refusedWith p 0x90 tag 0x14 s))
    ∧ ∀ k, supplyOf sup = some k →
      let r := s.supply k
      let silent := match k with
        | .mains => false
        | .steam => (s.feeder .boiler).silent
        | .dryair => (s.feeder .dryer).silent
      let part (e : Entry) : List Byte :=
        [(match e.claimant with
          | .comp .c0 => 0
          | .comp .c1 => 1
          | .comp .c2 => 2
          | .supplier .boiler => 3
          | .supplier .dryer => 4),
          BitVec.ofNat 8 (e.code % 16 + 16 * (if e.offered.isSome then 1 else if 0 < e.inForce then 2 else 0)
            + (if e.restrained then 64 else 0) + (if e.warm then 128 else 0)),
          BitVec.ofNat 8 (e.inForce / 256), BitVec.ofNat 8 e.inForce,
          BitVec.ofNat 8 (e.offered.getD 0 / 256), BitVec.ofNat 8 (e.offered.getD 0)]
      exec (.allocrd p tag sup) s
        = .next (queueReply p
            ([BitVec.ofNat 8 (12 + 6 * r.entries.length), 0x90, tag, 0x00, sup,
              BitVec.ofNat 8 (r.epoch.toNat / 256), BitVec.ofNat 8 r.epoch.toNat, BitVec.ofNat 8 (r.effCap / 256),
              BitVec.ofNat 8 r.effCap,
              BitVec.ofNat 8 ((if r.offerOut then 1 else 0) + (if silent then 2 else 0)),
              BitVec.ofNat 8 r.window, BitVec.ofNat 8 r.entries.length] ++ r.entries.flatMap part)
            (scoreEvent p acceptedEvent (startInterval p s)))

/-- R70, R75, R78, R120, R141: where a status watch counts and its next second reaches supplier_watch, the supply is
silent, its watch stops at 0, the supplier's MAINS entry is gone, the supply's effective capacity is 0 and its entries
hold nothing, STALE is posted with the supply, and the supplier is charged 8 (held in WATCH). The second of that watch is
the same event (log 3). -/
def Obligations.StatusWatchExpirySilencesTheSupply : Prop :=
  ∀ (s : State) (u : Supplier), SuppliesSafe s → s.mode ≠ .setup → (s.feeder u).silent = false →
    (s.feeder u).watch + 1 = s.config.supplierWatch →
    ∃ t, exec (.statusWatchExpiry u) s = .next t ∧ exec (.timerSecondEnd (.statusWatch u)) s = .next t
      ∧ t.mode = s.mode ∧ t.config = s.config ∧ t.profiles = s.profiles ∧ t.pointers = s.pointers
      ∧ t.plans = s.plans ∧ t.breach = s.breach ∧ t.cpis = s.cpis
      ∧ t.feeders = s.feeders.set u { s.feeder u with silent := true, watch := 0 }
      ∧ t.entry .mains (.supplier u) = none ∧ (t.supply u.supply).effCap = 0
      ∧ (∀ e ∈ (t.supply u.supply).entries, e.held = 0)
      ∧ (∀ p, Shows t p .stale compsNone (suppliesOne u.supply))
      ∧ (t.score u.port).dfs
        = (if s.mode = .watch then (s.score u.port).dfs else min 511 ((s.score u.port).dfs + 8))
      ∧ ∀ q, q ≠ u.port → t.score q = s.score q

/-- R101, R121, R141: where the confirm window's next second ends it, EXPIRED and the supply's MAP notice are posted,
the window is settled (restarted with an offer standing, else 0), and each responsible port is charged 8: for STEAM
BOILER, for DRYAIR DRYER, for MAINS each supplier whose own entry held an offer. While no standing changes by it, the
epoch advances by exactly 1, whether or not the pass changed an amount. R101 steps 1 and 4 (bench off): the offers are
dropped and the pass runs over what is left: the entries stay in their places, only their amounts change, and no
in-force amount rises (R95: the move into force is a CONFIRM's or bench operation's). A single waiting entry is
offered its want again, or what of the capacity reaches its min, or nothing (R87); a single entry in force that fits
keeps its amount and is offered its rise (R89); of two waiting entries the lower code, then the first in the list, is
served first and the other from what is left. STEAM serves a LIMITED CABINET's claims to their minimums. The second of
that window is the same event (log 3). -/
def Obligations.ConfirmWindowExpiryOffersAgain : Prop :=
  ∀ (s : State) (sup : Supply), (s.supply sup).offerOut = true → (s.supply sup).window ≤ 1 → s.mode = .service →
    let charged (p : Port) : Prop := match p, sup with
      | .boiler, .steam => True
      | .dryer, .dryair => True
      | .boiler, .mains => ∃ e o, s.entry .mains (.supplier .boiler) = some e ∧ e.offered = some o
      | .dryer, .mains => ∃ e o, s.entry .mains (.supplier .dryer) = some e ∧ e.offered = some o
      | _, _ => False
    ∃ t, exec (.confirmWindowExpiry sup) s = .next t ∧ exec (.timerSecondEnd (.confirmWindow sup)) s = .next t
      ∧ Kept s t ∧ t.plans = s.plans ∧ t.breach = s.breach ∧ t.cpis = s.cpis
      ∧ (∀ p, Shows t p .expired compsNone (suppliesOne sup) ∧ Shows t p (match sup with
          | .mains => .mainsmap
          | .steam => .steammap
          | .dryair => .airmap) compsNone (suppliesOne sup))
      ∧ (∀ p, charged p → (t.score p).dfs = min 511 ((s.score p).dfs + 8))
      ∧ (∀ p, ¬ charged p → t.score p = s.score p)
      ∧ ((∀ p, t.standing p = s.standing p) →
          (t.supply sup).epoch = (s.supply sup).epoch + 1
          ∧ (t.supply sup).offerOut = (t.supply sup).entries.any (fun e => e.offered.isSome)
          ∧ (t.supply sup).window = (if (t.supply sup).offerOut = true then s.config.confirmWindow else 0)
          ∧ (s.config.bench = false →
            let es := (s.supply sup).entries
            let cap := (s.supply sup).effCap
            let want (e : Entry) : Nat := if sup = .steam ∧ s.standing .cabinet = .limited then e.min else e.want
            let serve (e : Entry) (free : Nat) : Entry :=
              { e with offered := if want e ≤ free then some (want e) else if e.min ≤ free then some free else none }
            List.Forall₂
              (fun e e' => e' = { e with inForce := e'.inForce, offered := e'.offered } ∧ e'.inForce ≤ e.inForce)
              es (t.supply sup).entries
            ∧ (∀ e, es = [e] → e.inForce = 0 → (t.supply sup).entries = [serve e cap])
            ∧ (∀ e, es = [e] → 0 < e.inForce → e.inForce ≤ want e → e.inForce ≤ cap →
              (t.supply sup).entries
                = [{ e with
                    offered := if e.inForce < min (want e) cap then some (min (want e) cap) else none }])
            ∧ ∀ a b, a.claimant ≠ b.claimant →
              (es = [a, b] ∧ a.code ≤ b.code ∨ es = [b, a] ∧ a.code < b.code) → a.inForce = 0 → b.inForce = 0 →
              (t.supply sup).entries
                = es.map (fun e =>
                    if e.claimant = a.claimant then serve a cap else serve b (cap - (serve a cap).held))))

/-! ### Permission and the breach record -/

/-- R33, R34, R35, R125, R132: a compartment's supply is permitted when, in the band of its last T (by floor, clamped to
0..7), the key does not forbid it and the humidity range does not remove it (STEAM above an UP bound, DRYAIR below a DOWN
bound); for STEAM, when the wet condition and moist_limited are clear; and when the report state is neither AWAITING nor
STALE and the CABINET port is not CUT. R126: the hold causes are the conditions among these that removed the supply: BARRED
or KEY by the key, RANGE, WET, STALE and CUT. -/
def Obligations.PermissionIsComposedFromItsConditions : Prop :=
  ∀ (s : State) (c : Comp) (sup : Supply) (i : Fin 128), sup ≠ .mains →
    let x := s.comp c
    let prof := s.profile x.profile
    let b := s.band i
    i.val = x.profile.val * 8 + min 7 (Int.floor ((x.lastT - prof.bandBase : ℚ) / (prof.bandWidth : ℚ))).toNat →
    (permits s c sup = true ↔
      (x.report = .fresh ∨ x.report = .never) ∧ s.standing .cabinet ≠ .cut ∧ b.key ≠ .barred
      ∧ (sup = .steam → b.key ≠ .airNote ∧ b.key ≠ .airOnly ∧ ¬ (b.direction = .up ∧ b.hBound < x.lastH)
          ∧ x.wet = false ∧ x.moistLimited = false)
      ∧ (sup = .dryair → ¬ (b.direction = .down ∧ x.lastH < b.hBound)))
    ∧ i.val = x.profile.val * 8 + (s.curBandIndex c).val
    ∧ removalCauses s c sup =
      { barred := decide (b.key = .barred)
        key := decide (sup = .steam ∧ (b.key = .airNote ∨ b.key = .airOnly))
        range := decide ((sup = .steam ∧ b.direction = .up ∧ b.hBound < x.lastH)
          ∨ (sup = .dryair ∧ b.direction = .down ∧ x.lastH < b.hBound))
        wet := decide (sup = .steam ∧ x.wet = true)
        stale := decide (x.report = .awaiting ∨ x.report = .stale)
        cut := decide (s.standing .cabinet = .cut) }

/-- R137: BRKCLR, in every mode, clears a frozen breach record, every field, and is answered OK; on a clear one it is
answered NONE. It touches nothing else. -/
def Obligations.BrkclrClearsTheBreachRecord : Prop :=
  ∀ (s : State) (tag : Byte), Served .panel s →
    (s.breach.frozen = false → exec (.brkclr .panel tag) s = .next (refusedWith .panel 0x88 tag 0x03 s))
    ∧ (s.breach.frozen = true →
      exec (.brkclr .panel tag) s = .next (acceptedWith .panel 0x88 tag acceptedEvent
        { startInterval .panel s with
          breach := ⟨false, ⟨false, false, false, false, false, false⟩, none, none, none, 0, 0, 0, 0, 0, 0, false⟩ }))

/-! ### Tables -/

/-- R173, R174, R175: TBLPTR, from any port in any standing, points at a row of a table, part 0, last access NONE, and
unspoils; a table or row outside its range is refused RANGE and spoils the pointer. TBLRD at a spoiled pointer is
answered POINTER; else it steps first after a read, to the next part and then the next row (past the last one it is
spoiled and answered POINTER), and answers with the image of the part it then stands at. The images of the PORT, PLAN,
CONTEXT, SUPPLY, ENTRY and BREACH rows are given byte by byte (R178); a step or an entry past the end reads 0
throughout. That a spoiled pointer keeps its other fields is the model's choice (log 5). -/
def Obligations.TablePointerSelectsAndSteps : Prop :=
  ∀ (s : State) (p : Port) (tag table row : Byte), takesAtOnce p s = true →
    let x := s.pointer p
    let spoiled := { startInterval p s with pointers := s.pointers.set p { x with spoiled := true } }
    (∀ t n, tableOf table = some t → [1, 4, 16, 128, 36, 3, 3, 9, 1][table.toNat]? = some n → row.toNat < n →
      exec (.tblptr p tag table row) s = .next (acceptedWith p 0x91 tag acceptedEvent
        { startInterval p s with pointers := s.pointers.set p ⟨t, row.toNat, 0, .never, false⟩ }))
    ∧ ((∀ n, [1, 4, 16, 128, 36, 3, 3, 9, 1][table.toNat]? = some n → n ≤ row.toNat) →
      exec (.tblptr p tag table row) s = .next (queueReply p [0x04, 0x91, tag, 0x14] spoiled))
    ∧ (x.spoiled = true → exec (.tblrd p tag) s = .next (refusedWith p 0x92 tag 0x1B s))
    ∧ (x.spoiled = false →
      let reads (at' : Pointer) : State :=
        queueReply p ([BitVec.ofNat 8 ((readImage s at').length + 4), 0x92, tag, 0x00] ++ readImage s at')
          (scoreEvent p acceptedEvent
            { startInterval p s with pointers := s.pointers.set p { at' with last := .read } })
      (x.last ≠ .read → exec (.tblrd p tag) s = .next (reads x))
      ∧ (x.last = .read → x.part + 1 < x.table.parts →
        exec (.tblrd p tag) s = .next (reads { x with part := x.part + 1 }))
      ∧ (x.last = .read → x.table.parts ≤ x.part + 1 → x.row + 1 < x.table.rows →
        exec (.tblrd p tag) s = .next (reads { x with row := x.row + 1, part := 0 }))
      ∧ (x.last = .read → x.table.parts ≤ x.part + 1 → x.table.rows ≤ x.row + 1 →
        exec (.tblrd p tag) s = .next (queueReply p [0x04, 0x92, tag, 0x1B] spoiled)))
    ∧ (let b1 (n : Nat) : Byte := BitVec.ofNat 8 n
      let w2 (n : Nat) : List Byte := [b1 (n / 256), b1 n]
      let w3 (n : Nat) : List Byte := [b1 (n / 65536), b1 (n / 256), b1 n]
      let deg (t : Int) : List Byte := w2 (BitVec.ofInt 16 t).toNat
      let bit (n : Nat) (f : Bool) : Nat := if f then 2 ^ n else 0
      ∀ y : Pointer,
      (∀ q, y.table = .port → y.row = (match q with
          | .panel => 0
          | .boiler => 1
          | .dryer => 2
          | .cabinet => 3) →
        readImage s y =
          [b1 (match q with
            | .boiler => (s.feeder .boiler).priority
            | .dryer => (s.feeder .dryer).priority
            | .panel => 0
            | .cabinet => 0)]
          ++ w2 (s.score q).rfs ++ w2 (s.score q).dfs
          ++ [b1 (match s.standing q with
            | .good => 0
            | .limited => 1
            | .cut => 2)]
          ++ [b1 (s.score q).readmission] ++ w2 (s.notice q).mask.toNat ++ [b1 (s.notice q).base]
          ++ [b1 (if (s.notice q).enable then 1 else 0)]
          ++ w2 ((List.finRange 16).map fun n => bit n.val ((s.notice q).pending.get n).isSome).sum
          ++ w2 (s.notice q).inService.toNat)
      ∧ (∀ c j, y.table = .plan → j < 12 → y.row = (match c with
          | .c0 => j
          | .c1 => 12 + j
          | .c2 => 24 + j) →
        readImage s y = match (s.plan c)[j]? with
          | none => List.replicate 13 0
          | some st =>
            [1, b1 (st.kind.code * 64 + st.unit.code * 16 + st.ending.code * 4 + st.policy.code),
              b1 (st.claim.getD ⟨0, 0, 0⟩).cls]
            ++ w2 (st.duration.getD 0) ++ w3 (st.target.getD 0) ++ w2 (st.cap.getD 0)
            ++ [b1 (st.claim.getD ⟨0, 0, 0⟩).want, b1 (st.claim.getD ⟨0, 0, 0⟩).min, b1 st.lastOutcome.code])
      ∧ (∀ c, y.table = .context → y.row = (match c with
          | .c0 => 0
          | .c1 => 1
          | .c2 => 2) →
        let z := s.comp c
        (y.part = 0 → readImage s y =
          [b1 z.state.code, b1 z.profile.val, b1 z.step,
            b1 (bit 0 z.pause.panel + bit 1 z.pause.door + bit 2 z.pause.mode),
            b1 (bit 0 z.hold.barred + bit 1 z.hold.key + bit 2 z.hold.range + bit 3 z.hold.wet + bit 4 z.hold.stale
              + bit 5 z.hold.cut),
            b1 (bit 0 z.heatLimited + bit 1 z.moistLimited + bit 2 z.doorOpen + bit 3 z.noted
              + bit 4 z.restart.isSome + bit 5 z.permitted.steam + bit 6 z.permitted.dryair),
            b1 z.doorCount]
          ++ w2 z.doorTimer ++ w2 z.stepUnits ++ [b1 z.stepPhase] ++ w2 z.capUnits ++ [b1 z.capPhase, b1 z.watch]
          ++ w3 z.mdStart ++ [b1 ((z.restart.map Restart.step).getD 0)]
          ++ w2 ((z.restart.map Restart.elapsed).getD 0)
          ++ [b1 ((z.restart.map Restart.phase).getD 0), b1 ((z.restart.map fun r => r.cause.code).getD 0),
            b1 z.outcome.code])
        ∧ (y.part = 1 → readImage s y =
          w3 z.hd ++ w3 z.md ++ w2 z.ws ++ deg z.lastT ++ w2 z.lastH ++ [b1 z.lastW] ++ w2 z.prevHeat
          ++ w2 z.prevMoist ++ [b1 z.report.code, z.lastSeq.getD 0,
            b1 (bit 0 z.heatWarned + bit 1 z.moistWarned + bit 2 z.baseline + bit 3 z.wet
              + bit 4 z.lastSeq.isSome)]))
      ∧ (∀ u, y.table = .supply → y.row = (match u with
          | .mains => 0
          | .steam => 1
          | .dryair => 2) →
        readImage s y =
          w2 (match u with
            | .mains => s.config.mainsCapacity
            | .steam => (s.feeder .boiler).reported
            | .dryair => (s.feeder .dryer).reported)
          ++ w2 (s.supply u).effCap ++ w2 (s.supply u).epoch.toNat
          ++ [b1 (bit 0 (s.supply u).offerOut + bit 1 (match u with
              | .mains => false
              | .steam => (s.feeder .boiler).silent
              | .dryair => (s.feeder .dryer).silent)),
            b1 (s.supply u).window,
            b1 (match u with
              | .mains => 0
              | .steam => (s.feeder .boiler).watch
              | .dryair => (s.feeder .dryer).watch)]
          ++ (if u = .mains then w2 (s.feeder .boiler).draw ++ w2 (s.feeder .dryer).draw else [0, 0, 0, 0])
          ++ [b1 (s.supply u).entries.length])
      ∧ (∀ u j, y.table = .entry → j < 3 → y.row = (match u with
          | .mains => j
          | .steam => 3 + j
          | .dryair => 6 + j) →
        readImage s y = match (s.supply u).entries[j]? with
          | none => List.replicate 12 0
          | some e =>
            [1, (match e.claimant with
              | .comp .c0 => 0
              | .comp .c1 => 1
              | .comp .c2 => 2
              | .supplier .boiler => 3
              | .supplier .dryer => 4),
              b1 (e.code % 16 + 16 * (if e.offered.isSome then 1 else if 0 < e.inForce then 2 else 0)
                + bit 6 e.restrained + bit 7 e.warm)]
            ++ w2 e.min ++ w2 e.want ++ w2 e.inForce ++ w2 (e.offered.getD 0)
            ++ [match (s.supply u).grants.idxOf? e.claimant with
              | none => 0
              | some g => b1 (g + 1)])
      ∧ (y.table = .breach →
        let z := s.breach
        readImage s y =
          [b1 (bit 0 z.frozen + bit 1 z.later),
            b1 (bit 0 z.causes.barred + bit 1 z.causes.range + bit 2 z.causes.key + bit 3 z.causes.wet
              + bit 4 z.causes.heat + bit 5 z.causes.moist),
            (match z.comp with
              | none => 0
              | some .c0 => 0
              | some .c1 => 1
              | some .c2 => 2),
            (match z.supply with
              | none => 0
              | some .mains => 0
              | some .steam => 1
              | some .dryair => 2),
            (match z.band with
              | none => 0
              | some b => b1 b.val)]
          ++ deg z.t ++ w2 z.h ++ [b1 z.w] ++ w3 z.hd ++ w3 z.md ++ [b1 z.step]))

/-- R40, R41, R175, R176, R177: TBLWR is refused POINTER at a spoiled pointer. After a previous write it steps first, to
the next part and then the next row, and past the table's end it is refused POINTER and the pointer is spoiled. Then,
spoiling the pointer, it is refused STATE for a table that is not written, MODE for CONFIG and PORT outside SETUP, STATE
for a fixed row, and RANGE for another record length than the part's or an undefined code, by the first check that
fails. In SETUP a PORT write sets the supplier's priority, clamped to 0..7, and a CONFIG write sets every field, clamped
to its range. In SETUP, or where the profile is not in use, a PROFILE part and a BAND row take every field, clamped, and
a band row that changed has its flags cleared. That a spoiled pointer keeps its other fields, as they were before the
step of a write that is then refused, is the model's choice (log 5). -/
def Obligations.TblwrChecksAndWritesRows : Prop :=
  ∀ (s : State) (tag : Byte) (image : List Byte), Served .panel s → 1 ≤ image.length → image.length ≤ 13 →
    let x := s.pointer .panel
    let refused (code : Byte) : State :=
      queueReply .panel [0x04, 0x93, tag, code]
        { startInterval .panel s with pointers := s.pointers.set .panel { x with spoiled := true } }
    (x.spoiled = true → exec (.tblwr .panel tag image) s = .next (refusedWith .panel 0x93 tag 0x1B s))
    ∧ (x.spoiled = false → x.last = .write → x.table.parts ≤ x.part + 1 → x.table.rows ≤ x.row + 1 →
      exec (.tblwr .panel tag image) s = .next (refused 0x1B))
    ∧ ∀ y : Pointer, x.spoiled = false →
      ((x.last ≠ .write ∧ y = x)
        ∨ (x.last = .write ∧ x.part + 1 < x.table.parts ∧ y = { x with part := x.part + 1 })
        ∨ (x.last = .write ∧ x.table.parts ≤ x.part + 1 ∧ x.row + 1 < x.table.rows
            ∧ y = { x with row := x.row + 1, part := 0 })) →
      let accepts (t : State) : Prop :=
        exec (.tblwr .panel tag image) s = .next (acceptedWith .panel 0x93 tag acceptedEvent
          { startInterval .panel t with pointers := s.pointers.set .panel { y with last := .write } })
      let fixed := (y.table = .port ∧ (y.row = 0 ∨ y.row = 3)) ∨ (y.table = .profile ∧ y.row = 0)
        ∨ (y.table = .band ∧ y.row < 8)
      (y.table ≠ .config → y.table ≠ .port → y.table ≠ .profile → y.table ≠ .band →
        exec (.tblwr .panel tag image) s = .next (refused 0x1A))
      ∧ (y.table = .config ∨ y.table = .port → s.mode ≠ .setup →
        exec (.tblwr .panel tag image) s = .next (refused 0x12))
      ∧ (fixed → (y.table = .port → s.mode = .setup) → exec (.tblwr .panel tag image) s = .next (refused 0x1A))
      ∧ (¬ fixed → (y.table = .config ∨ y.table = .port → s.mode = .setup) →
        (y.table = .config ∧ image.length ≠ 13 ∨ y.table = .port ∧ image.length ≠ 1
          ∨ y.table = .profile ∧ image.length ≠ (if y.part = 0 then 11 else 6)
          ∨ y.table = .band ∧ image.length ≠ 5) →
        exec (.tblwr .panel tag image) s = .next (refused 0x14))
      ∧ (∀ (u : Supplier) (pri : Byte), s.mode = .setup → y.table = .port → image = [pri] →
        y.row = (match u with
          | .boiler => 1
          | .dryer => 2) →
        accepts { s with feeders := s.feeders.set u { s.feeder u with priority := min pri.toNat 7 } })
      ∧ (∀ (i : Fin 16) (t1 t0 h1 h0 hd2 hd1 hd0 md2 md1 md0 w : Byte), i ≠ 0 → y.table = .profile →
        y.row = i.val → y.part = 0 → s.mode = .setup ∨ s.profileInUse i = false →
        image = [t1, t0, h1, h0, hd2, hd1, hd0, md2, md1, md0, w] →
        accepts (s.setProfile i
          { s.profile i with
            tRef := max (-400) (min 1250 (half t1 t0).toInt), hRef := min 1000 (h1.toNat * 256 + h0.toNat),
            hdLimit := hd2.toNat * 65536 + hd1.toNat * 256 + hd0.toNat,
            mdLimit := md2.toNat * 65536 + md1.toNat * 256 + md0.toNat, wMax := w.toNat }))
      ∧ (∀ (i : Fin 16) (fl h1 h0 b1 b0 width : Byte), i ≠ 0 → y.table = .profile → y.row = i.val → y.part = 1 →
        image = [fl, h1, h0, b1, b0, width] →
        (8 ≤ fl.toNat → exec (.tblwr .panel tag image) s = .next (refused 0x14))
        ∧ (fl.toNat < 8 → s.mode = .setup ∨ s.profileInUse i = false →
          accepts (s.setProfile i
            { s.profile i with
              present := fl.getLsbD 0, requires := ⟨fl.getLsbD 1, fl.getLsbD 2⟩,
              hHot := min 1001 (h1.toNat * 256 + h0.toNat), bandBase := max (-400) (min 1250 (half b1 b0).toInt),
              bandWidth := max 10 (min 200 width.toNat) })))
      ∧ (∀ (row : Fin 128) (k d h1 h0 fl : Byte), 8 ≤ row.val → y.table = .band → y.row = row.val →
        image = [k, d, h1, h0, fl] →
        (6 ≤ k.toNat ∨ 2 ≤ d.toNat → exec (.tblwr .panel tag image) s = .next (refused 0x14))
        ∧ ∀ (key : BandKey) (dir : Direction) (i : Fin 16), key.code = k.toNat → dir.code = d.toNat →
          row.val / 8 = i.val → s.mode = .setup ∨ s.profileInUse i = false →
          let old := s.band row
          let h := min 1000 (h1.toNat * 256 + h0.toNat)
          accepts (s.setBand row
            (if old.key = key ∧ old.direction = dir ∧ old.hBound = h then old else ⟨key, dir, h, false, false⟩)))
      ∧ ∀ m1 m0 a1 a0 spk apk win rw sw d1 d0 opt caps : Byte, s.mode = .setup → y.table = .config →
        image = [m1, m0, a1, a0, spk, apk, win, rw, sw, d1, d0, opt, caps] →
        ∃ t, exec (.tblwr .panel tag image) s = .next t ∧ Answered .panel [0x04, 0x93, tag, 0x00] s t
          ∧ t.config =
            { mainsCapacity := min 9999 (m1.toNat * 256 + m0.toNat)
              auxReserve := min 2000 (a1.toNat * 256 + a0.toNat)
              steamPerKw := max 1 (min 60 spk.toNat)
              airPerKw := max 1 (min 100 apk.toNat)
              confirmWindow := max 1 (win.toNat / 16)
              reportWatch := max 2 (min 60 rw.toNat)
              supplierWatch := max 2 (min 60 sw.toNat)
              doorLimit := max 10 (min 600 (d1.toNat * 256 + d0.toNat))
              doorMax := max 1 (win.toNat % 16)
              notedNotices := opt.getLsbD 0
              bench := opt.getLsbD 1
              caps := ⟨⟨caps.getLsbD 0, caps.getLsbD 1⟩, ⟨caps.getLsbD 2, caps.getLsbD 3⟩,
                ⟨caps.getLsbD 4, caps.getLsbD 5⟩⟩ }
          ∧ (t.supply .mains).effCap
            = min (min 9999 (m1.toNat * 256 + m0.toNat) - min 2000 (a1.toNat * 256 + a0.toNat)) 9999
          ∧ t.pointers = s.pointers.set .panel { y with last := .write }
          ∧ t.mode = s.mode ∧ t.profiles = s.profiles ∧ t.feeders = s.feeders ∧ t.plans = s.plans
          ∧ t.breach = s.breach

/-- R42, R43: out of SETUP, a TBLWR to a row of a profile in use takes tightening changes alone. Of profile part 0 the
dose limits fall (0 counted above every other value) and w_max falls; every other field is kept; the reply is PART where
the row differs from what was written. Of profile part 1 every field is kept, PART where one differs. Of a band the key
moves toward BARRED, h_bound falls under UP and rises under DOWN, and the direction is kept. No other row's fields
change. -/
def Obligations.RowsInUseAreOnlyTightened : Prop :=
  ∀ (s : State) (tag : Byte) (i : Fin 16), Served .panel s → s.mode ≠ .setup → i ≠ 0 → s.profileInUse i = true →
    (s.pointer .panel).spoiled = false → (s.pointer .panel).last ≠ .write →
    (∀ t1 t0 h1 h0 hd2 hd1 hd0 md2 md1 md0 w : Byte, (s.pointer .panel).table = .profile →
        (s.pointer .panel).row = i.val → (s.pointer .panel).part = 0 → (s.profile i).hdLimit ≤ 16777215 →
        (s.profile i).mdLimit ≤ 16777215 →
      let old := s.profile i
      let hd := hd2.toNat * 65536 + hd1.toNat * 256 + hd0.toNat
      let md := md2.toNat * 65536 + md1.toNat * 256 + md0.toNat
      ∃ t, exec (.tblwr .panel tag [t1, t0, h1, h0, hd2, hd1, hd0, md2, md1, md0, w]) s = .next t
        ∧ t.profile i =
          { old with
            hdLimit := if hd ≠ 0 ∧ (old.hdLimit = 0 ∨ hd < old.hdLimit) then hd else old.hdLimit
            mdLimit := if md ≠ 0 ∧ (old.mdLimit = 0 ∨ md < old.mdLimit) then md else old.mdLimit
            wMax := min old.wMax w.toNat }
        ∧ (∀ j, j ≠ i → t.profile j = s.profile j)
        ∧ (t.cpi .panel).outbound = (s.cpi .panel).outbound ++ [[0x04, 0x93, tag,
            if t.profile i =
              { old with
                tRef := max (-400) (min 1250 (half t1 t0).toInt), hRef := min 1000 (h1.toNat * 256 + h0.toNat),
                hdLimit := hd, mdLimit := md, wMax := w.toNat }
            then 0x00 else 0x01]]
        ∧ t.mode = s.mode ∧ t.config = s.config ∧ t.feeders = s.feeders
        ∧ ∀ q, q ≠ .panel → t.cpi q = s.cpi q ∧ t.pointer q = s.pointer q ∧ t.score q = s.score q)
    ∧ (∀ fl h1 h0 b1 b0 width : Byte, (s.pointer .panel).table = .profile → (s.pointer .panel).row = i.val →
        (s.pointer .panel).part = 1 → fl.toNat < 8 →
      exec (.tblwr .panel tag [fl, h1, h0, b1, b0, width]) s
        = .next (queueReply .panel [0x04, 0x93, tag,
            if s.profile i =
              { s.profile i with
                present := fl.getLsbD 0, requires := ⟨fl.getLsbD 1, fl.getLsbD 2⟩,
                hHot := min 1001 (h1.toNat * 256 + h0.toNat), bandBase := max (-400) (min 1250 (half b1 b0).toInt),
                bandWidth := max 10 (min 200 width.toNat) }
            then 0x00 else 0x01]
            (scoreEvent .panel acceptedEvent
              { startInterval .panel s with
                pointers := s.pointers.set .panel { s.pointer .panel with last := .write } })))
    ∧ ∀ (row : Fin 128) (k d h1 h0 fl : Byte), (s.pointer .panel).table = .band →
        (s.pointer .panel).row = row.val → row.val / 8 = i.val → k.toNat ≤ 5 → d.toNat ≤ 1 →
      let old := s.band row
      let h := min 1000 (h1.toNat * 256 + h0.toNat)
      ∃ t, exec (.tblwr .panel tag [k, d, h1, h0, fl]) s = .next t
        ∧ (t.band row).key.code = min old.key.code k.toNat ∧ (t.band row).direction = old.direction
        ∧ (t.band row).hBound = (match old.direction with
          | .up => min old.hBound h
          | .down => max old.hBound h)
        ∧ (s.config.bench = false → (t.band row).key ≠ old.key ∨ (t.band row).hBound ≠ old.hBound →
            (t.band row).noted = false ∧ (t.band row).steamed = false)
        ∧ (∀ j, j ≠ row → t.band j = { s.band j with noted := (t.band j).noted, steamed := (t.band j).steamed })
        ∧ t.profiles = s.profiles ∧ t.mode = s.mode ∧ t.config = s.config ∧ t.feeders = s.feeders
        ∧ ∀ q, q ≠ .panel → t.cpi q = s.cpi q ∧ t.pointer q = s.pointer q ∧ t.score q = s.score q

/-! ### Notices -/

/-- R153, R172: NTFETCH, from any port in any standing, takes the highest unmasked pending channel: it leaves the pending
set with its detail, joins the in-service set where the enable is on, the line is recomputed (R152), and the reply holds
the channel, its code, its detail and the count of unmasked channels still pending. That the count is taken before the
scores of the take are judged, so that a STANDING notice the fetch itself causes is not counted, is the model's reading
(log 14). With no unmasked channel pending it is answered NONE and nothing changes. -/
def Obligations.NtfetchTakesTheHighestChannel : Prop :=
  ∀ (s : State) (p : Port) (tag : Byte), takesAtOnce p s = true →
    let x := s.notice p
    let ready (n : Fin 16) : Prop := (x.pending.get n).isSome = true ∧ x.mask.getLsbD n.val = false
    ((∀ n, ¬ ready n) → exec (.ntfetch p tag) s = .next (refusedWith p 0x94 tag 0x03 s))
    ∧ ∀ (n : Fin 16) (d : Detail), x.pending.get n = some d → ready n → (∀ m, n < m → ¬ ready m) →
      exec (.ntfetch p tag) s
        = .next (queueReply p
            [0x0A, 0x94, tag, 0x00, BitVec.ofNat 8 n.val, BitVec.ofNat 8 (x.base * 16 + n.val),
              BitVec.ofNat 8 ((if d.comps.c0 then 1 else 0) + (if d.comps.c1 then 2 else 0)
                + (if d.comps.c2 then 4 else 0)),
              BitVec.ofNat 8 ((if d.supplies.mains then 1 else 0) + (if d.supplies.steam then 2 else 0)
                + (if d.supplies.dryair then 4 else 0)),
              (match d.principal with
                | none => 0
                | some .barred => 1
                | some .range => 2
                | some .key => 3
                | some .wet => 4
                | some .heat => 5
                | some .moist => 6),
              BitVec.ofNat 8 ((List.finRange 16).filter fun m => decide (m ≠ n ∧ ready m)).length]
            (scoreEvent p acceptedEvent
              { startInterval p s with
                notices := s.notices.set p
                  ({ x with
                      pending := x.pending.set n.val none n.isLt
                      inService := if x.enable then x.inService ||| BitVec.twoPow 16 n.val else x.inService }
                    : Notice).settle }))

/-- R154, R155, R156: from any port in any standing, NTDONE retires a channel from service, or is answered RANGE or NONE;
NTMASK replaces the mask; NTCFG sets the code base and the enable, an enable off emptying the in-service set, or is
refused RANGE. The line is recomputed (R152), and nothing else of the part changes but by the acceptance. -/
def Obligations.NoticeRequestsSetTheirFields : Prop :=
  ∀ (s : State) (p : Port) (tag ch base en : Byte) (mask : Half), takesAtOnce p s = true →
    let x := s.notice p
    let set (y : Notice) : State := { startInterval p s with notices := s.notices.set p y.settle }
    (16 ≤ ch.toNat → exec (.ntdone p tag ch) s = .next (refusedWith p 0x95 tag 0x14 s))
    ∧ (ch.toNat < 16 → x.inService.getLsbD ch.toNat = false →
      exec (.ntdone p tag ch) s = .next (refusedWith p 0x95 tag 0x03 s))
    ∧ (ch.toNat < 16 → x.inService.getLsbD ch.toNat = true →
      exec (.ntdone p tag ch) s = .next (acceptedWith p 0x95 tag acceptedEvent
        (set { x with inService := x.inService &&& ~~~ BitVec.twoPow 16 ch.toNat })))
    ∧ exec (.ntmask p tag mask) s = .next (acceptedWith p 0x96 tag acceptedEvent (set { x with mask := mask }))
    ∧ (16 ≤ base.toNat → exec (.ntcfg p tag base en) s = .next (refusedWith p 0x97 tag 0x14 s))
    ∧ (base.toNat < 16 →
      exec (.ntcfg p tag base en) s = .next (acceptedWith p 0x97 tag acceptedEvent
        (set { x with
          base := base.toNat, enable := decide (en ≠ 0), inService := if en = 0 then 0 else x.inService })))

/-! ### Modes and resets -/

/-- R27, R92, R159, R179: MODESET is refused RANGE for no mode, is answered OK with no effect for the present mode, and is
refused STATE from SETUP to SERVICE while mains_capacity does not exceed aux_reserve. Any other change writes the mode and
posts MODE; into SETUP every running treatment ends HALTED; from SERVICE to WATCH every running compartment gets the pause
cause MODE; from WATCH to SERVICE that cause goes, and where none remains the step is resumed (R20): ACTIVE for DWELL, else
WAITING where its supply is permitted (bench off), HELD where it is not, while a compartment with another cause stays as it
is; out of SETUP nothing else changes but the status watches, which are 0. Out of SERVICE no entry of any supply is left. -/
def Obligations.ModesetChangesTheMode : Prop :=
  ∀ (s : State) (tag m : Byte), Served .panel s → EntriesWhileRunning s → SuppliesSafe s →
    (3 ≤ m.toNat → exec (.modeset .panel tag m) s = .next (refusedWith .panel 0x98 tag 0x14 s))
    ∧ ∀ mode, modeOf m = some mode →
      (mode = s.mode →
        exec (.modeset .panel tag m) s
          = .next (acceptedWith .panel 0x98 tag acceptedEvent (startInterval .panel s)))
      ∧ (s.mode = .setup → mode = .service → s.config.mainsCapacity ≤ s.config.auxReserve →
        exec (.modeset .panel tag m) s = .next (refusedWith .panel 0x98 tag 0x1A s))
      ∧ (mode ≠ s.mode →
          (s.mode = .setup → mode = .service → s.config.auxReserve < s.config.mainsCapacity) →
        ∃ t, exec (.modeset .panel tag m) s = .next t ∧ Answered .panel [0x04, 0x98, tag, 0x00] s t ∧ t.mode = mode
          ∧ t.config = s.config ∧ t.profiles = s.profiles ∧ t.pointers = s.pointers
          ∧ (∀ p, Shows t p .mode compsNone suppliesNone)
          ∧ (∀ u, t.feeder u
            = if s.mode = .setup ∨ mode = .setup then { s.feeder u with watch := 0 } else s.feeder u)
          ∧ (s.mode = .service → ∀ sup, (t.supply sup).entries = [])
          ∧ (∀ k, s.running k = false → t.comp k = s.comp k ∧ t.plan k = s.plan k)
          ∧ (s.mode = .setup → t.comps = s.comps ∧ t.plans = s.plans ∧ t.supplies = s.supplies
              ∧ t.breach = s.breach)
          ∧ (s.mode ≠ .setup → mode = .setup → ∀ k, s.running k = true →
              (t.comp k).state = .ended ∧ (t.comp k).outcome = .halted
              ∧ t.plan k = setOutcome (s.plan k) (s.comp k).step .stopped
              ∧ ∀ p, Shows t p .treatend (compsOne k) suppliesNone)
          ∧ (s.mode = .service → mode = .watch → ∀ k, s.running k = true →
              (t.comp k).state = .paused ∧ (t.comp k).pause = { (s.comp k).pause with mode := true }
              ∧ ((s.comp k).pause = ⟨false, false, false⟩ → (t.comp k).restart
                = some ⟨(s.comp k).step, (s.comp k).stepUnits, (s.comp k).stepPhase, .mode⟩))
          ∧ (s.mode = .watch → mode = .service → ∀ k, s.running k = true →
              (t.comp k).pause = { (s.comp k).pause with mode := false }
              ∧ ((s.comp k).pause.panel = true ∨ (s.comp k).pause.door = true → (t.comp k).state = .paused)
              ∧ ((s.comp k).pause = ⟨false, false, true⟩ → ∀ st, s.curStep k = some st →
                (st.kind = .dwell → (t.comp k).state = .active ∧ (t.comp k).restart = none)
                ∧ ∀ sup, st.kind.supply = some sup →
                  (permits s k sup = true → s.config.bench = false →
                    (t.comp k).state = .waiting ∧ (t.comp k).restart = none)
                  ∧ (permits s k sup = false →
                    (t.comp k).state = .held ∧ (t.comp k).hold = removalCauses s k sup))))

/-- R158, R169, R180: REINIT sets the power-on values, but keeps CONFIG, the PORT priorities and the PROFILE and BAND
tables, recomputes the MAINS effective capacity from CONFIG, and leaves windows, assembly and take intervals; every
inbound queue is emptied, every outbound one but for a reply partly clocked out; no notice is posted, the acceptance is
not scored, and its own reply is queued last. That the window, the unfinished byte and lastOut are left too (log 4), and
the table, row, part and last access of the spoiled pointers (log 5), are the model's choices; that a reply is partly
clocked out from its first bit on is its reading (log 13). -/
def Obligations.ReinitRestartsThePart : Prop :=
  ∀ (s : State) (tag : Byte), Served .panel s →
    let kept (x : Cpi) : Cpi :=
      { x with
        inbound := [], outbound := if x.sent = 0 ∧ x.begun = false then [] else x.outbound.take 1 }
    exec (.reinit .panel tag) s = .next (queueReply .panel [0x04, 0x99, tag, 0x00]
      { State.reset with
        config := s.config
        profiles := s.profiles
        bands := s.bands
        supplies :=
          ⟨⟨min (s.config.mainsCapacity - s.config.auxReserve) 9999, 0, false, 0, [], []⟩,
            ⟨0, 0, false, 0, [], []⟩, ⟨0, 0, false, 0, [], []⟩⟩
        feeders := ⟨⟨0, 0, true, 0, (s.feeder .boiler).priority⟩, ⟨0, 0, true, 0, (s.feeder .dryer).priority⟩⟩
        cpis :=
          ⟨kept { s.cpi .panel with interval := 0 }, kept (s.cpi .boiler), kept (s.cpi .dryer),
            kept (s.cpi .cabinet)⟩
        pending := s.pending })

/-- R80, R119, R120, R157, R168: PORTRST, from any port in any standing, empties the port's inbound queue and all of its
outbound queue but a reply partly clocked out, behind which its reply is queued; clears the pending and in-service sets
and keeps mask, base and enable (so that afterwards no channel is pending on the port that the consequences of its role,
or a change of its standing, do not post); spoils the pointer; and touches no other port's queues or pointer. A
supplier's supply falls silent and its MAINS entry goes; the CABINET's running compartments become STALE, without
STALE's fault; the PANEL's has no further effect. That the window, the unfinished byte and lastOut are left is the
model's choice (log 4); that a reply is partly clocked out from its first bit on is its reading (log 13). That a spoiled
pointer keeps its other fields is the model's choice (log 5). -/
def Obligations.PortrstResetsThePort : Prop :=
  ∀ (s : State) (p : Port) (tag : Byte), takesAtOnce p s = true →
    ∃ t, exec (.portrst p tag) s = .next t
      ∧ t.cpis = s.cpis.set p
          { s.cpi p with
            inbound := [], interval := 0,
            outbound := (if (s.cpi p).sent = 0 ∧ (s.cpi p).begun = false then [] else (s.cpi p).outbound.take 1)
              ++ [[0x04, 0x9A, tag, 0x00]] }
      ∧ t.pointers = s.pointers.set p { s.pointer p with spoiled := true }
      ∧ (t.notice p).mask = (s.notice p).mask ∧ (t.notice p).base = (s.notice p).base
      ∧ (t.notice p).enable = (s.notice p).enable ∧ (t.notice p).inService = 0
      ∧ (∀ ch ∈ [Channel.mode, .expired, .stale, .dosewarn, .treatend, .stepend, .overrun, .door],
          (t.notice p).pending.get ch.num = none)
      ∧ (p ≠ .cabinet → ∀ ch ∈ [Channel.held, .breach], (t.notice p).pending.get ch.num = none)
      ∧ (p = .cabinet → (t.notice p).pending.get Channel.mainsmap.num = none)
      ∧ (p = .panel → ∀ ch, ch ≠ Channel.standing → (t.notice p).pending.get ch.num = none)
      ∧ (s.standing p ≠ .cut → (t.score p).dfs = (s.score p).dfs)
      ∧ (∀ q, q ≠ p → t.score q = s.score q)
      ∧ t.mode = s.mode ∧ t.config = s.config ∧ t.profiles = s.profiles ∧ t.plans = s.plans
      ∧ (p = .panel → t.standing .panel = s.standing .panel →
          (∀ n, (t.notice .panel).pending.get n = none) ∧ (t.notice .panel).line = false
          ∧ (∀ q, q ≠ .panel → t.notice q = s.notice q)
          ∧ t.comps = s.comps ∧ t.supplies = s.supplies ∧ t.feeders = s.feeders ∧ t.breach = s.breach)
      ∧ (∀ u : Supplier, p = u.port →
          t.feeders = s.feeders.set u { s.feeder u with silent := true, watch := 0 } ∧ t.breach = s.breach
          ∧ t.entry .mains (.supplier u) = none ∧ (t.supply u.supply).effCap = 0)
      ∧ (p = .cabinet → t.feeders = s.feeders
          ∧ ∀ k, (t.comp k).report = if s.running k = true then .stale else (s.comp k).report)

/-! ### What every command keeps -/

/-- R148, R152: in every state of a run each port's line is asserted exactly when an unmasked pending channel lies above
every channel in service, the scores lie in their ranges and give the standing, and no command that leaves the part in
WATCH changes a score; that this holds of the MODESET that enters WATCH too is the model's reading of R148 (log 12). -/
def Obligations.EveryCommandKeepsLinesAndStandings : Prop :=
  ∀ (c : Instr) (s t : State), exec c s = .next t →
    (LinesRight s → LinesRight t) ∧ (StandingsRight s → StandingsRight t) ∧ (t.mode = .watch → t.scores = s.scores)

/-- R68, R70, R72, R163: no command overdraws a supply: its entries stay at most one for each of its own claimants and
hold together no more than its effective capacity; and no queue of a port holds more than its room. -/
def Obligations.EveryStepKeepsTheSuppliesSafe : Prop :=
  ∀ s t : State, step s = .next t →
    (SuppliesSafe s → SuppliesSafe t) ∧ (SuppliesSafe s → QueuesBounded s → QueuesBounded t)

/-- R71, R94, R121: the offer-outstanding flag tells whether an offer stands, the window reads 0 without one, and every
amount keeps to its entry's min and want. -/
def Obligations.EveryStepKeepsOffersAndAmountsRight : Prop :=
  ∀ s t : State, SuppliesSafe s → step s = .next t →
    (OffersFlagged s → OffersFlagged t) ∧ (AmountsRight s → AmountsRight t)

/-- R1, R3, R7, R19: a compartment's entry stands only while its treatment is WAITING or ACTIVE on a step that draws that
supply, a running compartment with a pause cause is PAUSED, and the step index of a running treatment names a step. -/
def Obligations.EveryStepKeepsEntriesWithTheirSteps : Prop :=
  ∀ s t : State, EntriesWhileRunning s → StepsInPlan s → step s = .next t → EntriesWhileRunning t ∧ StepsInPlan t

/-- R46, R56, R57: the doses and wet-seconds stay within their ranges and fall only by being set to 0. -/
def Obligations.DosesRiseOrAreZeroed : Prop :=
  ∀ (c : Instr) (s t : State), exec c s = .next t → DosesBounded s →
    DosesBounded t ∧ ∀ k, ((s.comp k).hd ≤ (t.comp k).hd ∨ (t.comp k).hd = 0)
      ∧ ((s.comp k).md ≤ (t.comp k).md ∨ (t.comp k).md = 0) ∧ ((s.comp k).ws ≤ (t.comp k).ws ∨ (t.comp k).ws = 0)

/-- R133 to R137, R180: a frozen breach record is left as it is, or only marked later, by every well-formed command but
power-on, the PANEL's BRKCLR and REINIT, and the taking of a waiting record of those two. -/
def Obligations.FrozenBreachRecordIsKept : Prop :=
  ∀ (c : Instr) (s t : State), c.wellFormed = true → exec c s = .next t → s.breach.frozen = true → c ≠ .powerOn →
    (∀ tag, c ≠ .brkclr .panel tag ∧ c ≠ .reinit .panel tag) →
    (c = .requestTake .panel → ∀ r rest, (s.cpi .panel).inbound = r :: rest → r.kind ≠ 0x08 ∧ r.kind ≠ 0x19) →
    t.breach = s.breach ∨ t.breach = { s.breach with later := true }

/-- R2, R68 to R72, R93, R138, R152, R158, R163, R169, R180: the part at power-on meets every one of these conditions. -/
def Obligations.PowerOnMeetsEveryCondition : Prop :=
  LinesRight State.reset ∧ StandingsRight State.reset ∧ SuppliesSafe State.reset ∧ OffersFlagged State.reset
    ∧ QueuesBounded State.reset ∧ AmountsRight State.reset ∧ EntriesWhileRunning State.reset
    ∧ StepsInPlan State.reset ∧ DosesBounded State.reset
end

