-- ==== Sys2Proof/Laws/Allocation.lean ====
section
/-! SUPPORT. What the allocation pass can do, said once: with bench off it writes amounts alone and raises no in-force
amount (R86 to R89); and the orders and readings of a pass over two entries, as MAINS has. -/

namespace Sys2Proof.Machine

/-! ### What a pass leaves of a slot -/

/-- A slot after some of a pass: only its amounts and marks differ, and its in-force amount has not risen. -/
def Slot.Lowered (x y : Slot) : Prop :=
  y.entry = { x.entry with inForce := y.entry.inForce, offered := y.entry.offered }
    ∧ y.entry.inForce ≤ x.entry.inForce ∧ y.effWant = x.effWant ∧ y.intoForce = x.intoForce

/-- Every slot of a pass, in its place. -/
def PassState.Lowered (ps qs : PassState) : Prop := List.Forall₂ Slot.Lowered ps.slots qs.slots

theorem Slot.Lowered.refl (x : Slot) : x.Lowered x := ⟨rfl, le_rfl, rfl, rfl⟩

theorem Slot.Lowered.trans {x y z : Slot} (h : x.Lowered y) (k : y.Lowered z) : x.Lowered z := by
  obtain ⟨h1, h2, h3, h4⟩ := h
  obtain ⟨k1, k2, k3, k4⟩ := k
  refine ⟨?_, k2.trans h2, k3.trans h3, k4.trans h4⟩
  rw [k1, h1]

theorem PassState.Lowered.refl (ps : PassState) : ps.Lowered ps := List.forall₂_same.2 fun x _ => Slot.Lowered.refl x

theorem PassState.Lowered.trans {ps qs rs : PassState} (h : ps.Lowered qs) (k : qs.Lowered rs) : ps.Lowered rs := by
  unfold PassState.Lowered at *
  generalize ps.slots = l at h
  generalize qs.slots = m at h k
  generalize rs.slots = n at k
  induction h generalizing n with
  | nil => exact k
  | cons h1 _ ih =>
    cases k with
    | cons k1 k2 => exact .cons (h1.trans k1) (ih _ k2)

theorem PassState.update_lowered (ps : PassState) (cl : Claimant) {f : Slot → Slot}
    (hf : ∀ x : Slot, x.Lowered (f x)) :
    ps.Lowered (ps.update cl f) := by
  unfold PassState.Lowered PassState.update
  rw [List.forall₂_map_right_iff]
  refine List.forall₂_same.2 fun x _ => ?_
  split
  · exact hf x
  · exact Slot.Lowered.refl x

@[simp] theorem PassState.leaveIfEmpty_slots (ps : PassState) (cl : Claimant) : (ps.leaveIfEmpty cl).slots = ps.slots := by
  unfold PassState.leaveIfEmpty
  repeat' split
  all_goals rfl

theorem PassState.Lowered.leaveIfEmpty {ps qs : PassState} (h : ps.Lowered qs) (cl : Claimant) :
    ps.Lowered (qs.leaveIfEmpty cl) := by
  simpa [PassState.Lowered] using h

theorem lowered_foldl {α : Type} {f : PassState → α → PassState} (hf : ∀ (ps : PassState) (a : α), ps.Lowered (f ps a)) (l : List α)
    (ps : PassState) : ps.Lowered (l.foldl f ps) := by
  induction l generalizing ps with
  | nil => exact .refl ps
  | cons a l ih => exact (hf ps a).trans (ih _)

/-! ### The operations on one slot -/

theorem Slot.dropOffer_lowered (x : Slot) : x.Lowered x.dropOffer := by
  unfold Slot.dropOffer
  split
  · exact ⟨rfl, le_rfl, rfl, rfl⟩
  · exact .refl x

theorem Slot.cutTo_lowered (x : Slot) (n : Nat) : x.Lowered (x.cutTo n) := by
  unfold Slot.cutTo
  split
  · exact ⟨rfl, by simp only; omega, rfl, rfl⟩
  · exact .refl x

theorem Slot.take_lowered (x : Slot) (n : Nat) : x.Lowered (x.take n) := by
  unfold Slot.take
  split
  · exact .refl x
  · split
    · exact x.cutTo_lowered _
    · split
      · exact ⟨rfl, le_rfl, rfl, rfl⟩
      · exact x.dropOffer_lowered.trans (Slot.cutTo_lowered _ _)

theorem PassState.offer_lowered (ps : PassState) (cl : Claimant) (n : Nat) : ps.Lowered (ps.offer cl n) :=
  ps.update_lowered cl fun _ => ⟨rfl, le_rfl, rfl, rfl⟩

/-! ### The stages -/

theorem stageA_lowered (cap : Nat) (ps : PassState) : ps.Lowered (stageA cap ps) := by
  unfold stageA sweepWant sweepOffers sweepAboveMin sweepWhole
  refine ((lowered_foldl ?_ _ _).trans (lowered_foldl ?_ _ _)).trans ((lowered_foldl ?_ _ _).trans (lowered_foldl ?_ _ _))
  · intro ps cl
    refine (ps.update_lowered cl fun x => ?_).leaveIfEmpty cl
    split
    · exact x.dropOffer_lowered.trans (Slot.cutTo_lowered _ _)
    · exact .refl x
  · intro ps cl
    split
    · exact .refl ps
    · exact (ps.update_lowered cl Slot.dropOffer_lowered).leaveIfEmpty cl
  · intro ps cl
    refine ps.update_lowered cl fun x => ?_
    split
    · exact x.cutTo_lowered _
    · exact .refl x
  · intro ps cl
    split
    · exact .refl ps
    · exact (ps.update_lowered cl fun x => x.dropOffer_lowered.trans (Slot.cutTo_lowered _ _)).leaveIfEmpty cl

theorem reclaim_lowered (code : Nat) (l : List Claimant) (need : Nat) (ps : PassState) :
    ps.Lowered (reclaim code l need ps) := by
  induction l generalizing need ps with
  | nil => exact .refl ps
  | cons cl l ih =>
    unfold reclaim
    split
    · exact ih _ _
    · exact (ps.update_lowered cl fun x => x.take_lowered _).trans (ih _ _)

theorem serveOne_lowered (cap : Nat) (ps : PassState) (cl : Claimant) : ps.Lowered (serveOne cap ps cl) := by
  unfold serveOne
  dsimp only
  repeat' split
  all_goals
    first
    | exact .refl ps
    | exact ps.offer_lowered cl _
    | exact (reclaim_lowered _ _ _ ps).trans (PassState.offer_lowered _ _ _)

theorem topUpOne_lowered (cap : Nat) (ps : PassState) (cl : Claimant) : ps.Lowered (topUpOne cap ps cl) := by
  unfold topUpOne
  dsimp only
  repeat' split
  all_goals
    first
    | exact .refl ps
    | exact ps.offer_lowered cl _

/-- With bench off a pass leaves every entry in its slot, writes its amounts alone, raises no in-force amount, and brings
no entry into force. -/
theorem allocate_lowered (cap : Nat) (effWant : Entry → Nat) (entries : List Entry) (grants : List Claimant) :
    (PassState.start effWant entries grants).Lowered (allocate cap false effWant entries grants) :=
  (stageA_lowered cap _).trans
    ((lowered_foldl (serveOne_lowered cap) _ _).trans (lowered_foldl (topUpOne_lowered cap) _ _))

/-! ### A pass over two entries -/

theorem serveOrder_pair (x y : Slot) (g : List Claimant) :
    (⟨[x, y], g⟩ : PassState).serveOrder
      = if y.entry.code < x.entry.code then [y.entry.claimant, x.entry.claimant]
        else [x.entry.claimant, y.entry.claimant] := by
  simp only [PassState.serveOrder, sortSlots, insertSlot, decide_eq_true_eq]
  split <;> rfl

theorem shedOrder_pair (x y : Slot) (g : List Claimant) :
    (⟨[x, y], g⟩ : PassState).shedOrder
      = if x.entry.code < y.entry.code ∨ (x.entry.code = y.entry.code
            ∧ timeGranted g x.entry.claimant < timeGranted g y.entry.claimant) then
          [y.entry.claimant, x.entry.claimant]
        else [x.entry.claimant, y.entry.claimant] := by
  simp only [PassState.shedOrder, sortSlots, insertSlot, Bool.or_eq_true, Bool.and_eq_true, decide_eq_true_eq,
    beq_iff_eq]
  split <;> simp_all

theorem find_pair_fst (x y : Slot) (g : List Claimant) :
    (⟨[x, y], g⟩ : PassState).find x.entry.claimant = some x := by simp [PassState.find]

theorem find_pair_snd {x y : Slot} (g : List Claimant) (h : x.entry.claimant ≠ y.entry.claimant) :
    (⟨[x, y], g⟩ : PassState).find y.entry.claimant = some y := by simp [PassState.find, h]

theorem update_pair_fst {x y : Slot} (g : List Claimant) (f : Slot → Slot) (h : x.entry.claimant ≠ y.entry.claimant) :
    (⟨[x, y], g⟩ : PassState).update x.entry.claimant f = ⟨[f x, y], g⟩ := by
  simp [PassState.update, h.symm]

theorem update_pair_snd {x y : Slot} (g : List Claimant) (f : Slot → Slot) (h : x.entry.claimant ≠ y.entry.claimant) :
    (⟨[x, y], g⟩ : PassState).update y.entry.claimant f = ⟨[x, f y], g⟩ := by
  simp [PassState.update, h]

theorem total_pair (x y : Slot) (g : List Claimant) :
    (⟨[x, y], g⟩ : PassState).total = x.entry.held + y.entry.held := by simp [PassState.total]

end Sys2Proof.Machine
end

