-- ==== Sys2Proof/Laws/State.lean ====
section
/-! SUPPORT. The small lemmas of the state: what each setter leaves in each field, and what each reader reads after
each setter. All are true by unfolding; later proofs rewrite with them and unfold no record update. -/

namespace Sys2Proof.Machine

/-! ### Families of values -/

@[simp] theorem PerComp.get_set_self {α : Type} (m : PerComp α) (i : Comp) (a : α) : (m.set i a).get i = a := by
  cases i <;> rfl

theorem PerComp.get_set_ne {α : Type} (m : PerComp α) {i j : Comp} (a : α) (h : j ≠ i) : (m.set i a).get j = m.get j := by
  cases i <;> cases j <;> first | rfl | exact absurd rfl h

theorem PerComp.get_set {α : Type} (m : PerComp α) (i j : Comp) (a : α) :
    (m.set i a).get j = if j = i then a else m.get j := by
  cases i <;> cases j <;> rfl

@[simp] theorem PerPort.get_set_self {α : Type} (m : PerPort α) (i : Port) (a : α) : (m.set i a).get i = a := by
  cases i <;> rfl

theorem PerPort.get_set_ne {α : Type} (m : PerPort α) {i j : Port} (a : α) (h : j ≠ i) : (m.set i a).get j = m.get j := by
  cases i <;> cases j <;> first | rfl | exact absurd rfl h

theorem PerPort.get_set {α : Type} (m : PerPort α) (i j : Port) (a : α) :
    (m.set i a).get j = if j = i then a else m.get j := by
  cases i <;> cases j <;> rfl

@[simp] theorem PerSupply.get_set_self {α : Type} (m : PerSupply α) (i : Supply) (a : α) : (m.set i a).get i = a := by
  cases i <;> rfl

theorem PerSupply.get_set_ne {α : Type} (m : PerSupply α) {i j : Supply} (a : α) (h : j ≠ i) : (m.set i a).get j = m.get j := by
  cases i <;> cases j <;> first | rfl | exact absurd rfl h

theorem PerSupply.get_set {α : Type} (m : PerSupply α) (i j : Supply) (a : α) :
    (m.set i a).get j = if j = i then a else m.get j := by
  cases i <;> cases j <;> rfl

@[simp] theorem PerSupplier.get_set_self {α : Type} (m : PerSupplier α) (i : Supplier) (a : α) : (m.set i a).get i = a := by
  cases i <;> rfl

theorem PerSupplier.get_set_ne {α : Type} (m : PerSupplier α) {i j : Supplier} (a : α) (h : j ≠ i) : (m.set i a).get j = m.get j := by
  cases i <;> cases j <;> first | rfl | exact absurd rfl h

theorem PerSupplier.get_set {α : Type} (m : PerSupplier α) (i j : Supplier) (a : α) :
    (m.set i a).get j = if j = i then a else m.get j := by
  cases i <;> cases j <;> rfl

theorem vector_get_set {α : Type} {n : Nat} (v : Vector α n) (i j : Fin n) (a : α) :
    (v.set i.val a i.isLt).get j = if j = i then a else v.get j := by
  show (v.set i.val a i.isLt)[j.val] = if j = i then a else v[j.val]
  rw [Vector.getElem_set]
  by_cases h : j = i
  · simp [h]
  · have : i.val ≠ j.val := fun e => h (Fin.ext e.symm)
    simp [h, this]

/-! ### Setters and fields -/

section fields
variable (s : State)

@[simp] theorem State.setMode_mode (m : Mode) : (s.setMode m).mode = m := rfl
@[simp] theorem State.setMode_config (m : Mode) : (s.setMode m).config = s.config := rfl
@[simp] theorem State.setMode_comps (m : Mode) : (s.setMode m).comps = s.comps := rfl
@[simp] theorem State.setMode_plans (m : Mode) : (s.setMode m).plans = s.plans := rfl
@[simp] theorem State.setMode_profiles (m : Mode) : (s.setMode m).profiles = s.profiles := rfl
@[simp] theorem State.setMode_bands (m : Mode) : (s.setMode m).bands = s.bands := rfl
@[simp] theorem State.setMode_supplies (m : Mode) : (s.setMode m).supplies = s.supplies := rfl
@[simp] theorem State.setMode_feeders (m : Mode) : (s.setMode m).feeders = s.feeders := rfl
@[simp] theorem State.setMode_breach (m : Mode) : (s.setMode m).breach = s.breach := rfl
@[simp] theorem State.setMode_scores (m : Mode) : (s.setMode m).scores = s.scores := rfl
@[simp] theorem State.setMode_notices (m : Mode) : (s.setMode m).notices = s.notices := rfl
@[simp] theorem State.setMode_cpis (m : Mode) : (s.setMode m).cpis = s.cpis := rfl
@[simp] theorem State.setMode_pointers (m : Mode) : (s.setMode m).pointers = s.pointers := rfl
@[simp] theorem State.setMode_pending (m : Mode) : (s.setMode m).pending = s.pending := rfl
@[simp] theorem State.setConfig_mode (g : ConfigRec) : (s.setConfig g).mode = s.mode := rfl
@[simp] theorem State.setConfig_config (g : ConfigRec) : (s.setConfig g).config = g := rfl
@[simp] theorem State.setConfig_comps (g : ConfigRec) : (s.setConfig g).comps = s.comps := rfl
@[simp] theorem State.setConfig_plans (g : ConfigRec) : (s.setConfig g).plans = s.plans := rfl
@[simp] theorem State.setConfig_profiles (g : ConfigRec) : (s.setConfig g).profiles = s.profiles := rfl
@[simp] theorem State.setConfig_bands (g : ConfigRec) : (s.setConfig g).bands = s.bands := rfl
@[simp] theorem State.setConfig_supplies (g : ConfigRec) : (s.setConfig g).supplies = s.supplies := rfl
@[simp] theorem State.setConfig_feeders (g : ConfigRec) : (s.setConfig g).feeders = s.feeders := rfl
@[simp] theorem State.setConfig_breach (g : ConfigRec) : (s.setConfig g).breach = s.breach := rfl
@[simp] theorem State.setConfig_scores (g : ConfigRec) : (s.setConfig g).scores = s.scores := rfl
@[simp] theorem State.setConfig_notices (g : ConfigRec) : (s.setConfig g).notices = s.notices := rfl
@[simp] theorem State.setConfig_cpis (g : ConfigRec) : (s.setConfig g).cpis = s.cpis := rfl
@[simp] theorem State.setConfig_pointers (g : ConfigRec) : (s.setConfig g).pointers = s.pointers := rfl
@[simp] theorem State.setConfig_pending (g : ConfigRec) : (s.setConfig g).pending = s.pending := rfl
@[simp] theorem State.setComp_mode (c : Comp) (x : Context) : (s.setComp c x).mode = s.mode := rfl
@[simp] theorem State.setComp_config (c : Comp) (x : Context) : (s.setComp c x).config = s.config := rfl
@[simp] theorem State.setComp_comps (c : Comp) (x : Context) : (s.setComp c x).comps = s.comps.set c x := rfl
@[simp] theorem State.setComp_plans (c : Comp) (x : Context) : (s.setComp c x).plans = s.plans := rfl
@[simp] theorem State.setComp_profiles (c : Comp) (x : Context) : (s.setComp c x).profiles = s.profiles := rfl
@[simp] theorem State.setComp_bands (c : Comp) (x : Context) : (s.setComp c x).bands = s.bands := rfl
@[simp] theorem State.setComp_supplies (c : Comp) (x : Context) : (s.setComp c x).supplies = s.supplies := rfl
@[simp] theorem State.setComp_feeders (c : Comp) (x : Context) : (s.setComp c x).feeders = s.feeders := rfl
@[simp] theorem State.setComp_breach (c : Comp) (x : Context) : (s.setComp c x).breach = s.breach := rfl
@[simp] theorem State.setComp_scores (c : Comp) (x : Context) : (s.setComp c x).scores = s.scores := rfl
@[simp] theorem State.setComp_notices (c : Comp) (x : Context) : (s.setComp c x).notices = s.notices := rfl
@[simp] theorem State.setComp_cpis (c : Comp) (x : Context) : (s.setComp c x).cpis = s.cpis := rfl
@[simp] theorem State.setComp_pointers (c : Comp) (x : Context) : (s.setComp c x).pointers = s.pointers := rfl
@[simp] theorem State.setComp_pending (c : Comp) (x : Context) : (s.setComp c x).pending = s.pending := rfl
@[simp] theorem State.setPlan_mode (c : Comp) (x : List StepRec) : (s.setPlan c x).mode = s.mode := rfl
@[simp] theorem State.setPlan_config (c : Comp) (x : List StepRec) : (s.setPlan c x).config = s.config := rfl
@[simp] theorem State.setPlan_comps (c : Comp) (x : List StepRec) : (s.setPlan c x).comps = s.comps := rfl
@[simp] theorem State.setPlan_plans (c : Comp) (x : List StepRec) : (s.setPlan c x).plans = s.plans.set c x := rfl
@[simp] theorem State.setPlan_profiles (c : Comp) (x : List StepRec) : (s.setPlan c x).profiles = s.profiles := rfl
@[simp] theorem State.setPlan_bands (c : Comp) (x : List StepRec) : (s.setPlan c x).bands = s.bands := rfl
@[simp] theorem State.setPlan_supplies (c : Comp) (x : List StepRec) : (s.setPlan c x).supplies = s.supplies := rfl
@[simp] theorem State.setPlan_feeders (c : Comp) (x : List StepRec) : (s.setPlan c x).feeders = s.feeders := rfl
@[simp] theorem State.setPlan_breach (c : Comp) (x : List StepRec) : (s.setPlan c x).breach = s.breach := rfl
@[simp] theorem State.setPlan_scores (c : Comp) (x : List StepRec) : (s.setPlan c x).scores = s.scores := rfl
@[simp] theorem State.setPlan_notices (c : Comp) (x : List StepRec) : (s.setPlan c x).notices = s.notices := rfl
@[simp] theorem State.setPlan_cpis (c : Comp) (x : List StepRec) : (s.setPlan c x).cpis = s.cpis := rfl
@[simp] theorem State.setPlan_pointers (c : Comp) (x : List StepRec) : (s.setPlan c x).pointers = s.pointers := rfl
@[simp] theorem State.setPlan_pending (c : Comp) (x : List StepRec) : (s.setPlan c x).pending = s.pending := rfl
@[simp] theorem State.setProfile_mode (i : Fin 16) (x : Profile) : (s.setProfile i x).mode = s.mode := rfl
@[simp] theorem State.setProfile_config (i : Fin 16) (x : Profile) : (s.setProfile i x).config = s.config := rfl
@[simp] theorem State.setProfile_comps (i : Fin 16) (x : Profile) : (s.setProfile i x).comps = s.comps := rfl
@[simp] theorem State.setProfile_plans (i : Fin 16) (x : Profile) : (s.setProfile i x).plans = s.plans := rfl
@[simp] theorem State.setProfile_profiles (i : Fin 16) (x : Profile) : (s.setProfile i x).profiles = s.profiles.set i.val x i.isLt := rfl
@[simp] theorem State.setProfile_bands (i : Fin 16) (x : Profile) : (s.setProfile i x).bands = s.bands := rfl
@[simp] theorem State.setProfile_supplies (i : Fin 16) (x : Profile) : (s.setProfile i x).supplies = s.supplies := rfl
@[simp] theorem State.setProfile_feeders (i : Fin 16) (x : Profile) : (s.setProfile i x).feeders = s.feeders := rfl
@[simp] theorem State.setProfile_breach (i : Fin 16) (x : Profile) : (s.setProfile i x).breach = s.breach := rfl
@[simp] theorem State.setProfile_scores (i : Fin 16) (x : Profile) : (s.setProfile i x).scores = s.scores := rfl
@[simp] theorem State.setProfile_notices (i : Fin 16) (x : Profile) : (s.setProfile i x).notices = s.notices := rfl
@[simp] theorem State.setProfile_cpis (i : Fin 16) (x : Profile) : (s.setProfile i x).cpis = s.cpis := rfl
@[simp] theorem State.setProfile_pointers (i : Fin 16) (x : Profile) : (s.setProfile i x).pointers = s.pointers := rfl
@[simp] theorem State.setProfile_pending (i : Fin 16) (x : Profile) : (s.setProfile i x).pending = s.pending := rfl
@[simp] theorem State.setBand_mode (i : Fin 128) (x : Band) : (s.setBand i x).mode = s.mode := rfl
@[simp] theorem State.setBand_config (i : Fin 128) (x : Band) : (s.setBand i x).config = s.config := rfl
@[simp] theorem State.setBand_comps (i : Fin 128) (x : Band) : (s.setBand i x).comps = s.comps := rfl
@[simp] theorem State.setBand_plans (i : Fin 128) (x : Band) : (s.setBand i x).plans = s.plans := rfl
@[simp] theorem State.setBand_profiles (i : Fin 128) (x : Band) : (s.setBand i x).profiles = s.profiles := rfl
@[simp] theorem State.setBand_bands (i : Fin 128) (x : Band) : (s.setBand i x).bands = s.bands.set i.val x i.isLt := rfl
@[simp] theorem State.setBand_supplies (i : Fin 128) (x : Band) : (s.setBand i x).supplies = s.supplies := rfl
@[simp] theorem State.setBand_feeders (i : Fin 128) (x : Band) : (s.setBand i x).feeders = s.feeders := rfl
@[simp] theorem State.setBand_breach (i : Fin 128) (x : Band) : (s.setBand i x).breach = s.breach := rfl
@[simp] theorem State.setBand_scores (i : Fin 128) (x : Band) : (s.setBand i x).scores = s.scores := rfl
@[simp] theorem State.setBand_notices (i : Fin 128) (x : Band) : (s.setBand i x).notices = s.notices := rfl
@[simp] theorem State.setBand_cpis (i : Fin 128) (x : Band) : (s.setBand i x).cpis = s.cpis := rfl
@[simp] theorem State.setBand_pointers (i : Fin 128) (x : Band) : (s.setBand i x).pointers = s.pointers := rfl
@[simp] theorem State.setBand_pending (i : Fin 128) (x : Band) : (s.setBand i x).pending = s.pending := rfl
@[simp] theorem State.setSupply_mode (u : Supply) (x : SupplyRec) : (s.setSupply u x).mode = s.mode := rfl
@[simp] theorem State.setSupply_config (u : Supply) (x : SupplyRec) : (s.setSupply u x).config = s.config := rfl
@[simp] theorem State.setSupply_comps (u : Supply) (x : SupplyRec) : (s.setSupply u x).comps = s.comps := rfl
@[simp] theorem State.setSupply_plans (u : Supply) (x : SupplyRec) : (s.setSupply u x).plans = s.plans := rfl
@[simp] theorem State.setSupply_profiles (u : Supply) (x : SupplyRec) : (s.setSupply u x).profiles = s.profiles := rfl
@[simp] theorem State.setSupply_bands (u : Supply) (x : SupplyRec) : (s.setSupply u x).bands = s.bands := rfl
@[simp] theorem State.setSupply_supplies (u : Supply) (x : SupplyRec) : (s.setSupply u x).supplies = s.supplies.set u x := rfl
@[simp] theorem State.setSupply_feeders (u : Supply) (x : SupplyRec) : (s.setSupply u x).feeders = s.feeders := rfl
@[simp] theorem State.setSupply_breach (u : Supply) (x : SupplyRec) : (s.setSupply u x).breach = s.breach := rfl
@[simp] theorem State.setSupply_scores (u : Supply) (x : SupplyRec) : (s.setSupply u x).scores = s.scores := rfl
@[simp] theorem State.setSupply_notices (u : Supply) (x : SupplyRec) : (s.setSupply u x).notices = s.notices := rfl
@[simp] theorem State.setSupply_cpis (u : Supply) (x : SupplyRec) : (s.setSupply u x).cpis = s.cpis := rfl
@[simp] theorem State.setSupply_pointers (u : Supply) (x : SupplyRec) : (s.setSupply u x).pointers = s.pointers := rfl
@[simp] theorem State.setSupply_pending (u : Supply) (x : SupplyRec) : (s.setSupply u x).pending = s.pending := rfl
@[simp] theorem State.setFeeder_mode (u : Supplier) (x : Feeder) : (s.setFeeder u x).mode = s.mode := rfl
@[simp] theorem State.setFeeder_config (u : Supplier) (x : Feeder) : (s.setFeeder u x).config = s.config := rfl
@[simp] theorem State.setFeeder_comps (u : Supplier) (x : Feeder) : (s.setFeeder u x).comps = s.comps := rfl
@[simp] theorem State.setFeeder_plans (u : Supplier) (x : Feeder) : (s.setFeeder u x).plans = s.plans := rfl
@[simp] theorem State.setFeeder_profiles (u : Supplier) (x : Feeder) : (s.setFeeder u x).profiles = s.profiles := rfl
@[simp] theorem State.setFeeder_bands (u : Supplier) (x : Feeder) : (s.setFeeder u x).bands = s.bands := rfl
@[simp] theorem State.setFeeder_supplies (u : Supplier) (x : Feeder) : (s.setFeeder u x).supplies = s.supplies := rfl
@[simp] theorem State.setFeeder_feeders (u : Supplier) (x : Feeder) : (s.setFeeder u x).feeders = s.feeders.set u x := rfl
@[simp] theorem State.setFeeder_breach (u : Supplier) (x : Feeder) : (s.setFeeder u x).breach = s.breach := rfl
@[simp] theorem State.setFeeder_scores (u : Supplier) (x : Feeder) : (s.setFeeder u x).scores = s.scores := rfl
@[simp] theorem State.setFeeder_notices (u : Supplier) (x : Feeder) : (s.setFeeder u x).notices = s.notices := rfl
@[simp] theorem State.setFeeder_cpis (u : Supplier) (x : Feeder) : (s.setFeeder u x).cpis = s.cpis := rfl
@[simp] theorem State.setFeeder_pointers (u : Supplier) (x : Feeder) : (s.setFeeder u x).pointers = s.pointers := rfl
@[simp] theorem State.setFeeder_pending (u : Supplier) (x : Feeder) : (s.setFeeder u x).pending = s.pending := rfl
@[simp] theorem State.setBreach_mode (x : Breach) : (s.setBreach x).mode = s.mode := rfl
@[simp] theorem State.setBreach_config (x : Breach) : (s.setBreach x).config = s.config := rfl
@[simp] theorem State.setBreach_comps (x : Breach) : (s.setBreach x).comps = s.comps := rfl
@[simp] theorem State.setBreach_plans (x : Breach) : (s.setBreach x).plans = s.plans := rfl
@[simp] theorem State.setBreach_profiles (x : Breach) : (s.setBreach x).profiles = s.profiles := rfl
@[simp] theorem State.setBreach_bands (x : Breach) : (s.setBreach x).bands = s.bands := rfl
@[simp] theorem State.setBreach_supplies (x : Breach) : (s.setBreach x).supplies = s.supplies := rfl
@[simp] theorem State.setBreach_feeders (x : Breach) : (s.setBreach x).feeders = s.feeders := rfl
@[simp] theorem State.setBreach_breach (x : Breach) : (s.setBreach x).breach = x := rfl
@[simp] theorem State.setBreach_scores (x : Breach) : (s.setBreach x).scores = s.scores := rfl
@[simp] theorem State.setBreach_notices (x : Breach) : (s.setBreach x).notices = s.notices := rfl
@[simp] theorem State.setBreach_cpis (x : Breach) : (s.setBreach x).cpis = s.cpis := rfl
@[simp] theorem State.setBreach_pointers (x : Breach) : (s.setBreach x).pointers = s.pointers := rfl
@[simp] theorem State.setBreach_pending (x : Breach) : (s.setBreach x).pending = s.pending := rfl
@[simp] theorem State.setScore_mode (p : Port) (x : Score) : (s.setScore p x).mode = s.mode := rfl
@[simp] theorem State.setScore_config (p : Port) (x : Score) : (s.setScore p x).config = s.config := rfl
@[simp] theorem State.setScore_comps (p : Port) (x : Score) : (s.setScore p x).comps = s.comps := rfl
@[simp] theorem State.setScore_plans (p : Port) (x : Score) : (s.setScore p x).plans = s.plans := rfl
@[simp] theorem State.setScore_profiles (p : Port) (x : Score) : (s.setScore p x).profiles = s.profiles := rfl
@[simp] theorem State.setScore_bands (p : Port) (x : Score) : (s.setScore p x).bands = s.bands := rfl
@[simp] theorem State.setScore_supplies (p : Port) (x : Score) : (s.setScore p x).supplies = s.supplies := rfl
@[simp] theorem State.setScore_feeders (p : Port) (x : Score) : (s.setScore p x).feeders = s.feeders := rfl
@[simp] theorem State.setScore_breach (p : Port) (x : Score) : (s.setScore p x).breach = s.breach := rfl
@[simp] theorem State.setScore_scores (p : Port) (x : Score) : (s.setScore p x).scores = s.scores.set p x := rfl
@[simp] theorem State.setScore_notices (p : Port) (x : Score) : (s.setScore p x).notices = s.notices := rfl
@[simp] theorem State.setScore_cpis (p : Port) (x : Score) : (s.setScore p x).cpis = s.cpis := rfl
@[simp] theorem State.setScore_pointers (p : Port) (x : Score) : (s.setScore p x).pointers = s.pointers := rfl
@[simp] theorem State.setScore_pending (p : Port) (x : Score) : (s.setScore p x).pending = s.pending := rfl
@[simp] theorem State.setNotice_mode (p : Port) (x : Notice) : (s.setNotice p x).mode = s.mode := rfl
@[simp] theorem State.setNotice_config (p : Port) (x : Notice) : (s.setNotice p x).config = s.config := rfl
@[simp] theorem State.setNotice_comps (p : Port) (x : Notice) : (s.setNotice p x).comps = s.comps := rfl
@[simp] theorem State.setNotice_plans (p : Port) (x : Notice) : (s.setNotice p x).plans = s.plans := rfl
@[simp] theorem State.setNotice_profiles (p : Port) (x : Notice) : (s.setNotice p x).profiles = s.profiles := rfl
@[simp] theorem State.setNotice_bands (p : Port) (x : Notice) : (s.setNotice p x).bands = s.bands := rfl
@[simp] theorem State.setNotice_supplies (p : Port) (x : Notice) : (s.setNotice p x).supplies = s.supplies := rfl
@[simp] theorem State.setNotice_feeders (p : Port) (x : Notice) : (s.setNotice p x).feeders = s.feeders := rfl
@[simp] theorem State.setNotice_breach (p : Port) (x : Notice) : (s.setNotice p x).breach = s.breach := rfl
@[simp] theorem State.setNotice_scores (p : Port) (x : Notice) : (s.setNotice p x).scores = s.scores := rfl
@[simp] theorem State.setNotice_notices (p : Port) (x : Notice) : (s.setNotice p x).notices = s.notices.set p x := rfl
@[simp] theorem State.setNotice_cpis (p : Port) (x : Notice) : (s.setNotice p x).cpis = s.cpis := rfl
@[simp] theorem State.setNotice_pointers (p : Port) (x : Notice) : (s.setNotice p x).pointers = s.pointers := rfl
@[simp] theorem State.setNotice_pending (p : Port) (x : Notice) : (s.setNotice p x).pending = s.pending := rfl
@[simp] theorem State.setCpi_mode (p : Port) (x : Cpi) : (s.setCpi p x).mode = s.mode := rfl
@[simp] theorem State.setCpi_config (p : Port) (x : Cpi) : (s.setCpi p x).config = s.config := rfl
@[simp] theorem State.setCpi_comps (p : Port) (x : Cpi) : (s.setCpi p x).comps = s.comps := rfl
@[simp] theorem State.setCpi_plans (p : Port) (x : Cpi) : (s.setCpi p x).plans = s.plans := rfl
@[simp] theorem State.setCpi_profiles (p : Port) (x : Cpi) : (s.setCpi p x).profiles = s.profiles := rfl
@[simp] theorem State.setCpi_bands (p : Port) (x : Cpi) : (s.setCpi p x).bands = s.bands := rfl
@[simp] theorem State.setCpi_supplies (p : Port) (x : Cpi) : (s.setCpi p x).supplies = s.supplies := rfl
@[simp] theorem State.setCpi_feeders (p : Port) (x : Cpi) : (s.setCpi p x).feeders = s.feeders := rfl
@[simp] theorem State.setCpi_breach (p : Port) (x : Cpi) : (s.setCpi p x).breach = s.breach := rfl
@[simp] theorem State.setCpi_scores (p : Port) (x : Cpi) : (s.setCpi p x).scores = s.scores := rfl
@[simp] theorem State.setCpi_notices (p : Port) (x : Cpi) : (s.setCpi p x).notices = s.notices := rfl
@[simp] theorem State.setCpi_cpis (p : Port) (x : Cpi) : (s.setCpi p x).cpis = s.cpis.set p x := rfl
@[simp] theorem State.setCpi_pointers (p : Port) (x : Cpi) : (s.setCpi p x).pointers = s.pointers := rfl
@[simp] theorem State.setCpi_pending (p : Port) (x : Cpi) : (s.setCpi p x).pending = s.pending := rfl
@[simp] theorem State.setPointer_mode (p : Port) (x : Pointer) : (s.setPointer p x).mode = s.mode := rfl
@[simp] theorem State.setPointer_config (p : Port) (x : Pointer) : (s.setPointer p x).config = s.config := rfl
@[simp] theorem State.setPointer_comps (p : Port) (x : Pointer) : (s.setPointer p x).comps = s.comps := rfl
@[simp] theorem State.setPointer_plans (p : Port) (x : Pointer) : (s.setPointer p x).plans = s.plans := rfl
@[simp] theorem State.setPointer_profiles (p : Port) (x : Pointer) : (s.setPointer p x).profiles = s.profiles := rfl
@[simp] theorem State.setPointer_bands (p : Port) (x : Pointer) : (s.setPointer p x).bands = s.bands := rfl
@[simp] theorem State.setPointer_supplies (p : Port) (x : Pointer) : (s.setPointer p x).supplies = s.supplies := rfl
@[simp] theorem State.setPointer_feeders (p : Port) (x : Pointer) : (s.setPointer p x).feeders = s.feeders := rfl
@[simp] theorem State.setPointer_breach (p : Port) (x : Pointer) : (s.setPointer p x).breach = s.breach := rfl
@[simp] theorem State.setPointer_scores (p : Port) (x : Pointer) : (s.setPointer p x).scores = s.scores := rfl
@[simp] theorem State.setPointer_notices (p : Port) (x : Pointer) : (s.setPointer p x).notices = s.notices := rfl
@[simp] theorem State.setPointer_cpis (p : Port) (x : Pointer) : (s.setPointer p x).cpis = s.cpis := rfl
@[simp] theorem State.setPointer_pointers (p : Port) (x : Pointer) : (s.setPointer p x).pointers = s.pointers.set p x := rfl
@[simp] theorem State.setPointer_pending (p : Port) (x : Pointer) : (s.setPointer p x).pending = s.pending := rfl

end fields

/-! ### Setters and readers -/

section readers
variable (s : State)

@[simp] theorem State.setMode_comp (m : Mode) (j : Comp) : (s.setMode m).comp j = s.comp j := rfl
@[simp] theorem State.setConfig_comp (g : ConfigRec) (j : Comp) : (s.setConfig g).comp j = s.comp j := rfl
@[simp] theorem State.setComp_comp (c : Comp) (x : Context) : (s.setComp c x).comp c = x := PerComp.get_set_self _ _ _
theorem State.setComp_comp_ne (c : Comp) (x : Context) {j : Comp} (h : j ≠ c) : (s.setComp c x).comp j = s.comp j :=
  PerComp.get_set_ne _ _ h
theorem State.setComp_comp_at (c : Comp) (x : Context) (j : Comp) : (s.setComp c x).comp j = if j = c then x else s.comp j :=
  PerComp.get_set _ _ _ _
@[simp] theorem State.setPlan_comp (c : Comp) (x : List StepRec) (j : Comp) : (s.setPlan c x).comp j = s.comp j := rfl
@[simp] theorem State.setProfile_comp (i : Fin 16) (x : Profile) (j : Comp) : (s.setProfile i x).comp j = s.comp j := rfl
@[simp] theorem State.setBand_comp (i : Fin 128) (x : Band) (j : Comp) : (s.setBand i x).comp j = s.comp j := rfl
@[simp] theorem State.setSupply_comp (u : Supply) (x : SupplyRec) (j : Comp) : (s.setSupply u x).comp j = s.comp j := rfl
@[simp] theorem State.setFeeder_comp (u : Supplier) (x : Feeder) (j : Comp) : (s.setFeeder u x).comp j = s.comp j := rfl
@[simp] theorem State.setBreach_comp (x : Breach) (j : Comp) : (s.setBreach x).comp j = s.comp j := rfl
@[simp] theorem State.setScore_comp (p : Port) (x : Score) (j : Comp) : (s.setScore p x).comp j = s.comp j := rfl
@[simp] theorem State.setNotice_comp (p : Port) (x : Notice) (j : Comp) : (s.setNotice p x).comp j = s.comp j := rfl
@[simp] theorem State.setCpi_comp (p : Port) (x : Cpi) (j : Comp) : (s.setCpi p x).comp j = s.comp j := rfl
@[simp] theorem State.setPointer_comp (p : Port) (x : Pointer) (j : Comp) : (s.setPointer p x).comp j = s.comp j := rfl
@[simp] theorem State.setMode_plan (m : Mode) (j : Comp) : (s.setMode m).plan j = s.plan j := rfl
@[simp] theorem State.setConfig_plan (g : ConfigRec) (j : Comp) : (s.setConfig g).plan j = s.plan j := rfl
@[simp] theorem State.setComp_plan (c : Comp) (x : Context) (j : Comp) : (s.setComp c x).plan j = s.plan j := rfl
@[simp] theorem State.setPlan_plan (c : Comp) (x : List StepRec) : (s.setPlan c x).plan c = x := PerComp.get_set_self _ _ _
theorem State.setPlan_plan_ne (c : Comp) (x : List StepRec) {j : Comp} (h : j ≠ c) : (s.setPlan c x).plan j = s.plan j :=
  PerComp.get_set_ne _ _ h
theorem State.setPlan_plan_at (c : Comp) (x : List StepRec) (j : Comp) : (s.setPlan c x).plan j = if j = c then x else s.plan j :=
  PerComp.get_set _ _ _ _
@[simp] theorem State.setProfile_plan (i : Fin 16) (x : Profile) (j : Comp) : (s.setProfile i x).plan j = s.plan j := rfl
@[simp] theorem State.setBand_plan (i : Fin 128) (x : Band) (j : Comp) : (s.setBand i x).plan j = s.plan j := rfl
@[simp] theorem State.setSupply_plan (u : Supply) (x : SupplyRec) (j : Comp) : (s.setSupply u x).plan j = s.plan j := rfl
@[simp] theorem State.setFeeder_plan (u : Supplier) (x : Feeder) (j : Comp) : (s.setFeeder u x).plan j = s.plan j := rfl
@[simp] theorem State.setBreach_plan (x : Breach) (j : Comp) : (s.setBreach x).plan j = s.plan j := rfl
@[simp] theorem State.setScore_plan (p : Port) (x : Score) (j : Comp) : (s.setScore p x).plan j = s.plan j := rfl
@[simp] theorem State.setNotice_plan (p : Port) (x : Notice) (j : Comp) : (s.setNotice p x).plan j = s.plan j := rfl
@[simp] theorem State.setCpi_plan (p : Port) (x : Cpi) (j : Comp) : (s.setCpi p x).plan j = s.plan j := rfl
@[simp] theorem State.setPointer_plan (p : Port) (x : Pointer) (j : Comp) : (s.setPointer p x).plan j = s.plan j := rfl
@[simp] theorem State.setMode_profile (m : Mode) (j : Fin 16) : (s.setMode m).profile j = s.profile j := rfl
@[simp] theorem State.setConfig_profile (g : ConfigRec) (j : Fin 16) : (s.setConfig g).profile j = s.profile j := rfl
@[simp] theorem State.setComp_profile (c : Comp) (x : Context) (j : Fin 16) : (s.setComp c x).profile j = s.profile j := rfl
@[simp] theorem State.setPlan_profile (c : Comp) (x : List StepRec) (j : Fin 16) : (s.setPlan c x).profile j = s.profile j := rfl
theorem State.setProfile_profile_at (i : Fin 16) (x : Profile) (j : Fin 16) : (s.setProfile i x).profile j = if j = i then x else s.profile j :=
  vector_get_set _ _ _ _
@[simp] theorem State.setProfile_profile (i : Fin 16) (x : Profile) : (s.setProfile i x).profile i = x := by rw [State.setProfile_profile_at, if_pos rfl]
theorem State.setProfile_profile_ne (i : Fin 16) (x : Profile) {j : Fin 16} (h : j ≠ i) : (s.setProfile i x).profile j = s.profile j := by
  rw [State.setProfile_profile_at, if_neg h]
@[simp] theorem State.setBand_profile (i : Fin 128) (x : Band) (j : Fin 16) : (s.setBand i x).profile j = s.profile j := rfl
@[simp] theorem State.setSupply_profile (u : Supply) (x : SupplyRec) (j : Fin 16) : (s.setSupply u x).profile j = s.profile j := rfl
@[simp] theorem State.setFeeder_profile (u : Supplier) (x : Feeder) (j : Fin 16) : (s.setFeeder u x).profile j = s.profile j := rfl
@[simp] theorem State.setBreach_profile (x : Breach) (j : Fin 16) : (s.setBreach x).profile j = s.profile j := rfl
@[simp] theorem State.setScore_profile (p : Port) (x : Score) (j : Fin 16) : (s.setScore p x).profile j = s.profile j := rfl
@[simp] theorem State.setNotice_profile (p : Port) (x : Notice) (j : Fin 16) : (s.setNotice p x).profile j = s.profile j := rfl
@[simp] theorem State.setCpi_profile (p : Port) (x : Cpi) (j : Fin 16) : (s.setCpi p x).profile j = s.profile j := rfl
@[simp] theorem State.setPointer_profile (p : Port) (x : Pointer) (j : Fin 16) : (s.setPointer p x).profile j = s.profile j := rfl
@[simp] theorem State.setMode_band (m : Mode) (j : Fin 128) : (s.setMode m).band j = s.band j := rfl
@[simp] theorem State.setConfig_band (g : ConfigRec) (j : Fin 128) : (s.setConfig g).band j = s.band j := rfl
@[simp] theorem State.setComp_band (c : Comp) (x : Context) (j : Fin 128) : (s.setComp c x).band j = s.band j := rfl
@[simp] theorem State.setPlan_band (c : Comp) (x : List StepRec) (j : Fin 128) : (s.setPlan c x).band j = s.band j := rfl
@[simp] theorem State.setProfile_band (i : Fin 16) (x : Profile) (j : Fin 128) : (s.setProfile i x).band j = s.band j := rfl
theorem State.setBand_band_at (i : Fin 128) (x : Band) (j : Fin 128) : (s.setBand i x).band j = if j = i then x else s.band j :=
  vector_get_set _ _ _ _
@[simp] theorem State.setBand_band (i : Fin 128) (x : Band) : (s.setBand i x).band i = x := by rw [State.setBand_band_at, if_pos rfl]
theorem State.setBand_band_ne (i : Fin 128) (x : Band) {j : Fin 128} (h : j ≠ i) : (s.setBand i x).band j = s.band j := by
  rw [State.setBand_band_at, if_neg h]
@[simp] theorem State.setSupply_band (u : Supply) (x : SupplyRec) (j : Fin 128) : (s.setSupply u x).band j = s.band j := rfl
@[simp] theorem State.setFeeder_band (u : Supplier) (x : Feeder) (j : Fin 128) : (s.setFeeder u x).band j = s.band j := rfl
@[simp] theorem State.setBreach_band (x : Breach) (j : Fin 128) : (s.setBreach x).band j = s.band j := rfl
@[simp] theorem State.setScore_band (p : Port) (x : Score) (j : Fin 128) : (s.setScore p x).band j = s.band j := rfl
@[simp] theorem State.setNotice_band (p : Port) (x : Notice) (j : Fin 128) : (s.setNotice p x).band j = s.band j := rfl
@[simp] theorem State.setCpi_band (p : Port) (x : Cpi) (j : Fin 128) : (s.setCpi p x).band j = s.band j := rfl
@[simp] theorem State.setPointer_band (p : Port) (x : Pointer) (j : Fin 128) : (s.setPointer p x).band j = s.band j := rfl
@[simp] theorem State.setMode_supply (m : Mode) (j : Supply) : (s.setMode m).supply j = s.supply j := rfl
@[simp] theorem State.setConfig_supply (g : ConfigRec) (j : Supply) : (s.setConfig g).supply j = s.supply j := rfl
@[simp] theorem State.setComp_supply (c : Comp) (x : Context) (j : Supply) : (s.setComp c x).supply j = s.supply j := rfl
@[simp] theorem State.setPlan_supply (c : Comp) (x : List StepRec) (j : Supply) : (s.setPlan c x).supply j = s.supply j := rfl
@[simp] theorem State.setProfile_supply (i : Fin 16) (x : Profile) (j : Supply) : (s.setProfile i x).supply j = s.supply j := rfl
@[simp] theorem State.setBand_supply (i : Fin 128) (x : Band) (j : Supply) : (s.setBand i x).supply j = s.supply j := rfl
@[simp] theorem State.setSupply_supply (u : Supply) (x : SupplyRec) : (s.setSupply u x).supply u = x := PerSupply.get_set_self _ _ _
theorem State.setSupply_supply_ne (u : Supply) (x : SupplyRec) {j : Supply} (h : j ≠ u) : (s.setSupply u x).supply j = s.supply j :=
  PerSupply.get_set_ne _ _ h
theorem State.setSupply_supply_at (u : Supply) (x : SupplyRec) (j : Supply) : (s.setSupply u x).supply j = if j = u then x else s.supply j :=
  PerSupply.get_set _ _ _ _
@[simp] theorem State.setFeeder_supply (u : Supplier) (x : Feeder) (j : Supply) : (s.setFeeder u x).supply j = s.supply j := rfl
@[simp] theorem State.setBreach_supply (x : Breach) (j : Supply) : (s.setBreach x).supply j = s.supply j := rfl
@[simp] theorem State.setScore_supply (p : Port) (x : Score) (j : Supply) : (s.setScore p x).supply j = s.supply j := rfl
@[simp] theorem State.setNotice_supply (p : Port) (x : Notice) (j : Supply) : (s.setNotice p x).supply j = s.supply j := rfl
@[simp] theorem State.setCpi_supply (p : Port) (x : Cpi) (j : Supply) : (s.setCpi p x).supply j = s.supply j := rfl
@[simp] theorem State.setPointer_supply (p : Port) (x : Pointer) (j : Supply) : (s.setPointer p x).supply j = s.supply j := rfl
@[simp] theorem State.setMode_feeder (m : Mode) (j : Supplier) : (s.setMode m).feeder j = s.feeder j := rfl
@[simp] theorem State.setConfig_feeder (g : ConfigRec) (j : Supplier) : (s.setConfig g).feeder j = s.feeder j := rfl
@[simp] theorem State.setComp_feeder (c : Comp) (x : Context) (j : Supplier) : (s.setComp c x).feeder j = s.feeder j := rfl
@[simp] theorem State.setPlan_feeder (c : Comp) (x : List StepRec) (j : Supplier) : (s.setPlan c x).feeder j = s.feeder j := rfl
@[simp] theorem State.setProfile_feeder (i : Fin 16) (x : Profile) (j : Supplier) : (s.setProfile i x).feeder j = s.feeder j := rfl
@[simp] theorem State.setBand_feeder (i : Fin 128) (x : Band) (j : Supplier) : (s.setBand i x).feeder j = s.feeder j := rfl
@[simp] theorem State.setSupply_feeder (u : Supply) (x : SupplyRec) (j : Supplier) : (s.setSupply u x).feeder j = s.feeder j := rfl
@[simp] theorem State.setFeeder_feeder (u : Supplier) (x : Feeder) : (s.setFeeder u x).feeder u = x := PerSupplier.get_set_self _ _ _
theorem State.setFeeder_feeder_ne (u : Supplier) (x : Feeder) {j : Supplier} (h : j ≠ u) : (s.setFeeder u x).feeder j = s.feeder j :=
  PerSupplier.get_set_ne _ _ h
theorem State.setFeeder_feeder_at (u : Supplier) (x : Feeder) (j : Supplier) : (s.setFeeder u x).feeder j = if j = u then x else s.feeder j :=
  PerSupplier.get_set _ _ _ _
@[simp] theorem State.setBreach_feeder (x : Breach) (j : Supplier) : (s.setBreach x).feeder j = s.feeder j := rfl
@[simp] theorem State.setScore_feeder (p : Port) (x : Score) (j : Supplier) : (s.setScore p x).feeder j = s.feeder j := rfl
@[simp] theorem State.setNotice_feeder (p : Port) (x : Notice) (j : Supplier) : (s.setNotice p x).feeder j = s.feeder j := rfl
@[simp] theorem State.setCpi_feeder (p : Port) (x : Cpi) (j : Supplier) : (s.setCpi p x).feeder j = s.feeder j := rfl
@[simp] theorem State.setPointer_feeder (p : Port) (x : Pointer) (j : Supplier) : (s.setPointer p x).feeder j = s.feeder j := rfl
@[simp] theorem State.setMode_score (m : Mode) (j : Port) : (s.setMode m).score j = s.score j := rfl
@[simp] theorem State.setConfig_score (g : ConfigRec) (j : Port) : (s.setConfig g).score j = s.score j := rfl
@[simp] theorem State.setComp_score (c : Comp) (x : Context) (j : Port) : (s.setComp c x).score j = s.score j := rfl
@[simp] theorem State.setPlan_score (c : Comp) (x : List StepRec) (j : Port) : (s.setPlan c x).score j = s.score j := rfl
@[simp] theorem State.setProfile_score (i : Fin 16) (x : Profile) (j : Port) : (s.setProfile i x).score j = s.score j := rfl
@[simp] theorem State.setBand_score (i : Fin 128) (x : Band) (j : Port) : (s.setBand i x).score j = s.score j := rfl
@[simp] theorem State.setSupply_score (u : Supply) (x : SupplyRec) (j : Port) : (s.setSupply u x).score j = s.score j := rfl
@[simp] theorem State.setFeeder_score (u : Supplier) (x : Feeder) (j : Port) : (s.setFeeder u x).score j = s.score j := rfl
@[simp] theorem State.setBreach_score (x : Breach) (j : Port) : (s.setBreach x).score j = s.score j := rfl
@[simp] theorem State.setScore_score (p : Port) (x : Score) : (s.setScore p x).score p = x := PerPort.get_set_self _ _ _
theorem State.setScore_score_ne (p : Port) (x : Score) {j : Port} (h : j ≠ p) : (s.setScore p x).score j = s.score j :=
  PerPort.get_set_ne _ _ h
theorem State.setScore_score_at (p : Port) (x : Score) (j : Port) : (s.setScore p x).score j = if j = p then x else s.score j :=
  PerPort.get_set _ _ _ _
@[simp] theorem State.setNotice_score (p : Port) (x : Notice) (j : Port) : (s.setNotice p x).score j = s.score j := rfl
@[simp] theorem State.setCpi_score (p : Port) (x : Cpi) (j : Port) : (s.setCpi p x).score j = s.score j := rfl
@[simp] theorem State.setPointer_score (p : Port) (x : Pointer) (j : Port) : (s.setPointer p x).score j = s.score j := rfl
@[simp] theorem State.setMode_notice (m : Mode) (j : Port) : (s.setMode m).notice j = s.notice j := rfl
@[simp] theorem State.setConfig_notice (g : ConfigRec) (j : Port) : (s.setConfig g).notice j = s.notice j := rfl
@[simp] theorem State.setComp_notice (c : Comp) (x : Context) (j : Port) : (s.setComp c x).notice j = s.notice j := rfl
@[simp] theorem State.setPlan_notice (c : Comp) (x : List StepRec) (j : Port) : (s.setPlan c x).notice j = s.notice j := rfl
@[simp] theorem State.setProfile_notice (i : Fin 16) (x : Profile) (j : Port) : (s.setProfile i x).notice j = s.notice j := rfl
@[simp] theorem State.setBand_notice (i : Fin 128) (x : Band) (j : Port) : (s.setBand i x).notice j = s.notice j := rfl
@[simp] theorem State.setSupply_notice (u : Supply) (x : SupplyRec) (j : Port) : (s.setSupply u x).notice j = s.notice j := rfl
@[simp] theorem State.setFeeder_notice (u : Supplier) (x : Feeder) (j : Port) : (s.setFeeder u x).notice j = s.notice j := rfl
@[simp] theorem State.setBreach_notice (x : Breach) (j : Port) : (s.setBreach x).notice j = s.notice j := rfl
@[simp] theorem State.setScore_notice (p : Port) (x : Score) (j : Port) : (s.setScore p x).notice j = s.notice j := rfl
@[simp] theorem State.setNotice_notice (p : Port) (x : Notice) : (s.setNotice p x).notice p = x := PerPort.get_set_self _ _ _
theorem State.setNotice_notice_ne (p : Port) (x : Notice) {j : Port} (h : j ≠ p) : (s.setNotice p x).notice j = s.notice j :=
  PerPort.get_set_ne _ _ h
theorem State.setNotice_notice_at (p : Port) (x : Notice) (j : Port) : (s.setNotice p x).notice j = if j = p then x else s.notice j :=
  PerPort.get_set _ _ _ _
@[simp] theorem State.setCpi_notice (p : Port) (x : Cpi) (j : Port) : (s.setCpi p x).notice j = s.notice j := rfl
@[simp] theorem State.setPointer_notice (p : Port) (x : Pointer) (j : Port) : (s.setPointer p x).notice j = s.notice j := rfl
@[simp] theorem State.setMode_cpi (m : Mode) (j : Port) : (s.setMode m).cpi j = s.cpi j := rfl
@[simp] theorem State.setConfig_cpi (g : ConfigRec) (j : Port) : (s.setConfig g).cpi j = s.cpi j := rfl
@[simp] theorem State.setComp_cpi (c : Comp) (x : Context) (j : Port) : (s.setComp c x).cpi j = s.cpi j := rfl
@[simp] theorem State.setPlan_cpi (c : Comp) (x : List StepRec) (j : Port) : (s.setPlan c x).cpi j = s.cpi j := rfl
@[simp] theorem State.setProfile_cpi (i : Fin 16) (x : Profile) (j : Port) : (s.setProfile i x).cpi j = s.cpi j := rfl
@[simp] theorem State.setBand_cpi (i : Fin 128) (x : Band) (j : Port) : (s.setBand i x).cpi j = s.cpi j := rfl
@[simp] theorem State.setSupply_cpi (u : Supply) (x : SupplyRec) (j : Port) : (s.setSupply u x).cpi j = s.cpi j := rfl
@[simp] theorem State.setFeeder_cpi (u : Supplier) (x : Feeder) (j : Port) : (s.setFeeder u x).cpi j = s.cpi j := rfl
@[simp] theorem State.setBreach_cpi (x : Breach) (j : Port) : (s.setBreach x).cpi j = s.cpi j := rfl
@[simp] theorem State.setScore_cpi (p : Port) (x : Score) (j : Port) : (s.setScore p x).cpi j = s.cpi j := rfl
@[simp] theorem State.setNotice_cpi (p : Port) (x : Notice) (j : Port) : (s.setNotice p x).cpi j = s.cpi j := rfl
@[simp] theorem State.setCpi_cpi (p : Port) (x : Cpi) : (s.setCpi p x).cpi p = x := PerPort.get_set_self _ _ _
theorem State.setCpi_cpi_ne (p : Port) (x : Cpi) {j : Port} (h : j ≠ p) : (s.setCpi p x).cpi j = s.cpi j :=
  PerPort.get_set_ne _ _ h
theorem State.setCpi_cpi_at (p : Port) (x : Cpi) (j : Port) : (s.setCpi p x).cpi j = if j = p then x else s.cpi j :=
  PerPort.get_set _ _ _ _
@[simp] theorem State.setPointer_cpi (p : Port) (x : Pointer) (j : Port) : (s.setPointer p x).cpi j = s.cpi j := rfl
@[simp] theorem State.setMode_pointer (m : Mode) (j : Port) : (s.setMode m).pointer j = s.pointer j := rfl
@[simp] theorem State.setConfig_pointer (g : ConfigRec) (j : Port) : (s.setConfig g).pointer j = s.pointer j := rfl
@[simp] theorem State.setComp_pointer (c : Comp) (x : Context) (j : Port) : (s.setComp c x).pointer j = s.pointer j := rfl
@[simp] theorem State.setPlan_pointer (c : Comp) (x : List StepRec) (j : Port) : (s.setPlan c x).pointer j = s.pointer j := rfl
@[simp] theorem State.setProfile_pointer (i : Fin 16) (x : Profile) (j : Port) : (s.setProfile i x).pointer j = s.pointer j := rfl
@[simp] theorem State.setBand_pointer (i : Fin 128) (x : Band) (j : Port) : (s.setBand i x).pointer j = s.pointer j := rfl
@[simp] theorem State.setSupply_pointer (u : Supply) (x : SupplyRec) (j : Port) : (s.setSupply u x).pointer j = s.pointer j := rfl
@[simp] theorem State.setFeeder_pointer (u : Supplier) (x : Feeder) (j : Port) : (s.setFeeder u x).pointer j = s.pointer j := rfl
@[simp] theorem State.setBreach_pointer (x : Breach) (j : Port) : (s.setBreach x).pointer j = s.pointer j := rfl
@[simp] theorem State.setScore_pointer (p : Port) (x : Score) (j : Port) : (s.setScore p x).pointer j = s.pointer j := rfl
@[simp] theorem State.setNotice_pointer (p : Port) (x : Notice) (j : Port) : (s.setNotice p x).pointer j = s.pointer j := rfl
@[simp] theorem State.setCpi_pointer (p : Port) (x : Cpi) (j : Port) : (s.setCpi p x).pointer j = s.pointer j := rfl
@[simp] theorem State.setPointer_pointer (p : Port) (x : Pointer) : (s.setPointer p x).pointer p = x := PerPort.get_set_self _ _ _
theorem State.setPointer_pointer_ne (p : Port) (x : Pointer) {j : Port} (h : j ≠ p) : (s.setPointer p x).pointer j = s.pointer j :=
  PerPort.get_set_ne _ _ h
theorem State.setPointer_pointer_at (p : Port) (x : Pointer) (j : Port) : (s.setPointer p x).pointer j = if j = p then x else s.pointer j :=
  PerPort.get_set _ _ _ _

end readers

/-! ### Modifiers -/

@[simp] theorem State.modComp_eq (s : State) (i : Comp) (f : Context → Context) : s.modComp i f = s.setComp i (f (s.comp i)) := rfl
@[simp] theorem State.modSupply_eq (s : State) (i : Supply) (f : SupplyRec → SupplyRec) : s.modSupply i f = s.setSupply i (f (s.supply i)) := rfl
@[simp] theorem State.modFeeder_eq (s : State) (i : Supplier) (f : Feeder → Feeder) : s.modFeeder i f = s.setFeeder i (f (s.feeder i)) := rfl
@[simp] theorem State.modCpi_eq (s : State) (i : Port) (f : Cpi → Cpi) : s.modCpi i f = s.setCpi i (f (s.cpi i)) := rfl
@[simp] theorem State.modPointer_eq (s : State) (i : Port) (f : Pointer → Pointer) : s.modPointer i f = s.setPointer i (f (s.pointer i)) := rfl

@[simp] theorem State.setStepOutcome_eq (s : State) (c : Comp) (i : Nat) (o : StepOutcome) :
    s.setStepOutcome c i o = s.setPlan c (setOutcome (s.plan c) i o) := rfl

theorem setOutcome_length (plan : List StepRec) (i : Nat) (o : StepOutcome) :
    (setOutcome plan i o).length = plan.length := by
  induction plan generalizing i with
  | nil => rfl
  | cons st rest ih => cases i <;> simp [setOutcome, ih]

end Sys2Proof.Machine
end

