-- ==== Sys2Proof/Laws/Inside.lean ====
section
/-! SUPPORT. What the shared operations of the blocks can do, said once. Inside s t says that t came from s by work of
the blocks behind the CPIs: contexts, step outcomes, band flags, supply records, notices and the breach record may have
changed, nothing else has; every attention line still follows its condition; the breach record has only been filled or
marked. One lemma for each shared operation; later proofs cite them and do not unfold the operations. -/

namespace Sys2Proof.Machine

/-- What one or more writes do to the breach record: nothing, a later mark on a frozen record, or the filling of a clear
one. -/
def BreachMoved (b b' : Breach) : Prop :=
  b' = b ∨ (b.frozen = true ∧ b' = { b with later := true }) ∨ (b.frozen = false ∧ b'.frozen = true)

theorem BreachMoved.trans {a b c : Breach} (h : BreachMoved a b) (k : BreachMoved b c) : BreachMoved a c := by
  obtain rfl | ⟨h1, rfl⟩ | ⟨h1, h2⟩ := h
  · exact k
  · obtain rfl | ⟨_, rfl⟩ | ⟨k1, _⟩ := k
    · exact .inr (.inl ⟨h1, rfl⟩)
    · exact .inr (.inl ⟨h1, rfl⟩)
    · simp [h1] at k1
  · obtain rfl | ⟨_, rfl⟩ | ⟨k1, _⟩ := k
    · exact .inr (.inr ⟨h1, h2⟩)
    · exact .inr (.inr ⟨h1, h2⟩)
    · simp [h2] at k1

/-- The part of a context that only an accepted report, TSTART, BIND, REINIT and power-on write: doses, readings,
excesses, sequence number, baseline flag, wet condition and bound profile. -/
def Context.account (x : Context) :
    Nat × Nat × Nat × Int × Nat × Nat × Nat × Nat × Option Byte × Bool × Bool × Fin 16 :=
  (x.hd, x.md, x.ws, x.lastT, x.lastH, x.lastW, x.prevHeat, x.prevMoist, x.lastSeq, x.baseline, x.wet, x.profile)

/-- The work of the blocks behind the CPIs leaves these fields alone and keeps these conditions. -/
structure Inside (s t : State) : Prop where
  mode : t.mode = s.mode
  config : t.config = s.config
  profiles : t.profiles = s.profiles
  feeders : t.feeders = s.feeders
  scores : t.scores = s.scores
  cpis : t.cpis = s.cpis
  pointers : t.pointers = s.pointers
  pending : t.pending = s.pending
  plans : ∀ c, (t.plan c).length = (s.plan c).length
  account : ∀ c, (t.comp c).account = (s.comp c).account
  lines : LinesRight s → LinesRight t
  breach : BreachMoved s.breach t.breach

namespace Inside

theorem refl (s : State) : Inside s s := ⟨rfl, rfl, rfl, rfl, rfl, rfl, rfl, rfl, fun _ => rfl, fun _ => rfl, id, .inl rfl⟩

theorem trans {s t u : State} (h : Inside s t) (k : Inside t u) : Inside s u where
  mode := k.mode.trans h.mode
  config := k.config.trans h.config
  profiles := k.profiles.trans h.profiles
  feeders := k.feeders.trans h.feeders
  scores := k.scores.trans h.scores
  cpis := k.cpis.trans h.cpis
  pointers := k.pointers.trans h.pointers
  pending := k.pending.trans h.pending
  plans c := (k.plans c).trans (h.plans c)
  account c := (k.account c).trans (h.account c)
  lines := k.lines ∘ h.lines
  breach := h.breach.trans k.breach

/-- A case split does no more than its branches. -/
theorem ite {s t u : State} {p : Prop} [Decidable p] (h : Inside s t) (k : Inside s u) :
    Inside s (if p then t else u) := by
  split
  · exact h
  · exact k

/-- A walk over a list does no more than its steps. -/
theorem foldl {α : Type} {f : State → α → State} (h : ∀ s a, Inside s (f s a)) (l : List α) (s : State) :
    Inside s (l.foldl f s) := by
  induction l generalizing s with
  | nil => exact refl s
  | cons a l ih => exact (h s a).trans (ih (f s a))

theorem modComp (s : State) (c : Comp) (f : Context → Context)
    (h : ∀ x, (f x).account = x.account := by intro x; rfl) : Inside s (s.modComp c f) where
  mode := rfl
  config := rfl
  profiles := rfl
  feeders := rfl
  scores := rfl
  cpis := rfl
  pointers := rfl
  pending := rfl
  plans _ := rfl
  account d := by
    rw [State.modComp_eq, State.setComp_comp_at]
    split
    · subst d; exact h _
    · rfl
  lines := id
  breach := .inl rfl

theorem setBand (s : State) (i : Fin 128) (x : Band) : Inside s (s.setBand i x) :=
  ⟨rfl, rfl, rfl, rfl, rfl, rfl, rfl, rfl, fun _ => rfl, fun _ => rfl, id, .inl rfl⟩

theorem setSupply (s : State) (u : Supply) (x : SupplyRec) : Inside s (s.setSupply u x) :=
  ⟨rfl, rfl, rfl, rfl, rfl, rfl, rfl, rfl, fun _ => rfl, fun _ => rfl, id, .inl rfl⟩

theorem modSupply (s : State) (u : Supply) (f : SupplyRec → SupplyRec) : Inside s (s.modSupply u f) :=
  setSupply s u _

theorem setPlan (s : State) (c : Comp) (x : List StepRec) (h : x.length = (s.plan c).length) :
    Inside s (s.setPlan c x) where
  mode := rfl
  config := rfl
  profiles := rfl
  feeders := rfl
  scores := rfl
  cpis := rfl
  pointers := rfl
  pending := rfl
  plans d := by
    rw [State.setPlan_plan_at]
    split
    · subst d; exact h
    · rfl
  account _ := rfl
  lines := id
  breach := .inl rfl

theorem setStepOutcome (s : State) (c : Comp) (i : Nat) (o : StepOutcome) : Inside s (s.setStepOutcome c i o) :=
  setPlan s c _ (setOutcome_length _ _ _)

end Inside

/-! ### Notices -/

/-- R152: a change of a port's notice state through updateNotice leaves its line right. -/
theorem State.updateNotice_inside (s : State) (p : Port) (f : Notice → Notice) : Inside s (s.updateNotice p f) where
  mode := rfl
  config := rfl
  profiles := rfl
  feeders := rfl
  scores := rfl
  cpis := rfl
  pointers := rfl
  pending := rfl
  plans _ := rfl
  account _ := rfl
  lines h q := by
    rw [State.updateNotice, State.setNotice_notice_at]
    split
    · rfl
    · exact h q
  breach := .inl rfl

theorem postTo_inside (p : Port) (ch : Channel) (d : Detail) (s : State) : Inside s (postTo p ch d s) :=
  s.updateNotice_inside p _

theorem post_inside (ch : Channel) (d : Detail) (s : State) : Inside s (post ch d s) :=
  Inside.foldl (fun s p => postTo_inside p ch d s) _ s

/-! ### Band marks and in-force periods -/

theorem markBand_inside (c : Comp) (sup : Supply) (s : State) : Inside s (markBand c sup s) := by
  unfold markBand
  exact (Inside.setBand s _ _).trans (Inside.modComp _ c _)

theorem periodEnd_inside (c : Comp) (sup : Supply) (s : State) : Inside s (periodEnd c sup s) := by
  unfold periodEnd
  refine Inside.ite ?_ (Inside.refl s)
  exact Inside.ite ((Inside.modComp s c _).trans (post_inside _ _ _)) (Inside.modComp s c _)

/-! ### Supplies -/

theorem signalOut_inside (c : Comp) (sup : Supply) (s : State) : Inside s (signalOut c sup s) :=
  (Inside.ite (Inside.modComp s c _) (Inside.refl s)).trans (periodEnd_inside c sup _)

theorem signalIn_inside (c : Comp) (sup : Supply) (s : State) : Inside s (signalIn c sup s) :=
  (Inside.ite (Inside.modComp s c _) (Inside.refl s)).trans (markBand_inside c sup _)

theorem signalSlot_inside (sup : Supply) (s : State) (x : Slot) : Inside s (signalSlot sup s x) := by
  unfold signalSlot
  split
  · exact Inside.refl s
  · rename_i c _
    have h : Inside s (if x.outOfForce then signalOut c sup s else s) :=
      Inside.ite (signalOut_inside c sup s) (Inside.refl s)
    exact Inside.ite (h.trans (signalIn_inside c sup _)) h

theorem passOne_inside (sup : Supply) (force : Bool) (changed : PerComp Bool) (s : State) :
    Inside s (passOne sup force changed s) := by
  unfold passOne
  extract_lets r ps advance s1 s2 s3
  have h1 : Inside s s1 := Inside.setSupply s sup _
  have h2 : Inside s s2 := h1.trans (Inside.foldl (signalSlot_inside sup) _ _)
  have h3 : Inside s s3 := Inside.ite (h2.trans (post_inside _ _ _)) h2
  exact Inside.ite (h3.trans (post_inside _ _ _)) h3

theorem recomputeOne_inside (sup : Supply) (s : State) : Inside s (recomputeOne sup s) :=
  Inside.ite (Inside.refl s) ((Inside.modSupply s sup _).trans (passOne_inside _ _ _ _))

theorem couple_inside (before s : State) : Inside s (couple before s) := by
  unfold couple
  extract_lets s1
  have h1 : Inside s s1 := Inside.ite (recomputeOne_inside _ s) (Inside.refl s)
  exact Inside.ite (h1.trans (recomputeOne_inside _ _)) h1

theorem runPass_inside (sup : Supply) (force : Bool) (changed : PerComp Bool) (before s : State) :
    Inside s (runPass sup force changed before s) := by
  cases sup
  · exact (passOne_inside _ _ _ s).trans (couple_inside before _)
  · exact passOne_inside _ _ _ s
  · exact passOne_inside _ _ _ s

theorem recompute_inside (sup : Supply) (s : State) : Inside s (recompute sup s) := by
  cases sup
  · exact (recomputeOne_inside _ s).trans (couple_inside s _)
  · exact recomputeOne_inside _ s
  · exact recomputeOne_inside _ s

theorem appendEntry_inside (sup : Supply) (e : Entry) (s : State) : Inside s (appendEntry sup e s) :=
  Inside.ite (Inside.refl s) ((Inside.modSupply s sup _).trans (runPass_inside _ _ _ _ _))

theorem withdrawnPeriod_inside (sup : Supply) (e : Entry) (s : State) : Inside s (withdrawnPeriod sup e s) := by
  unfold withdrawnPeriod
  split
  · exact Inside.ite (periodEnd_inside _ sup s) (Inside.refl s)
  · exact Inside.refl s

theorem withdraw_inside (sup : Supply) (cl : Claimant) (s : State) : Inside s (withdraw sup cl s) := by
  unfold withdraw
  split
  · exact Inside.refl s
  · exact ((Inside.modSupply s sup _).trans (withdrawnPeriod_inside sup _ _)).trans (runPass_inside _ _ _ _ _)

theorem supplierOut_inside (u : Supplier) (s : State) : Inside s (supplierOut u s) :=
  (withdraw_inside _ _ s).trans (recompute_inside _ _)

theorem restrain_inside (sup : Supply) (cl : Claimant) (f : Entry → Entry) (s : State) :
    Inside s (restrain sup cl f s) :=
  Inside.ite ((Inside.modSupply s sup _).trans (runPass_inside _ _ _ _ _)) (Inside.refl s)

theorem restrainComp_inside (c : Comp) (s : State) : Inside s (restrainComp c s) :=
  (restrain_inside _ _ _ s).trans (restrain_inside _ _ _ _)

theorem claimMains_inside (u : Supplier) (min want : Nat) (s : State) : Inside s (claimMains u min want s) := by
  unfold claimMains
  extract_lets cl
  split
  · exact appendEntry_inside _ _ s
  · exact (Inside.modSupply s _ _).trans (runPass_inside _ _ _ _ _)

theorem signalMove_inside (sup : Supply) (s : State) (e : Entry) : Inside s (signalMove sup s e) := by
  unfold signalMove
  split
  · exact Inside.ite (signalIn_inside _ sup s) (Inside.refl s)
  · exact Inside.refl s

theorem confirmFed_inside (sup : Supply) (s : State) : Inside s (confirmFed sup s) :=
  ((Inside.modSupply s sup _).trans (Inside.foldl (signalMove_inside sup) _ _)).trans (post_inside _ _ _)

theorem confirmMains_inside (u : Supplier) (s : State) : Inside s (confirmMains u s) :=
  ((Inside.modSupply s _ _).trans (post_inside _ _ _)).trans (couple_inside _ _)

theorem expireOffers_inside (sup : Supply) (s : State) : Inside s (expireOffers sup s) :=
  ((Inside.modSupply s _ _).trans (post_inside _ _ _)).trans (runPass_inside _ _ _ _ _)

/-! ### Permission and the breach record -/

/-- R134, R135: a breach fills a clear record and marks a frozen one, whatever it carries, as long as it freezes. -/
theorem recordBreach_inside (fill : Breach) (s : State) (h : fill.frozen = true) : Inside s (recordBreach fill s) := by
  unfold recordBreach
  have base (b : Breach) (hb : BreachMoved s.breach b) : Inside s (s.setBreach b) :=
    ⟨rfl, rfl, rfl, rfl, rfl, rfl, rfl, rfl, fun _ => rfl, fun _ => rfl, id, hb⟩
  split
  case isTrue hf => exact base _ (.inr (.inl ⟨hf, rfl⟩))
  case isFalse hf => exact (base fill (.inr (.inr ⟨by simpa using hf, h⟩))).trans (post_inside _ _ _)

theorem breachTest_inside (c : Comp) (sup : Supply) (s : State) : Inside s (breachTest c sup s) :=
  Inside.ite (recordBreach_inside _ s rfl) (Inside.refl s)

theorem storePermitted_inside (c : Comp) (s : State) : Inside s (storePermitted c s) :=
  Inside.modComp s c fun x => { x with permitted := permittedNow s c }

/-! ### The Treatment Sequencer -/

theorem withdrawComp_inside (c : Comp) (s : State) : Inside s (withdrawComp c s) := by
  unfold withdrawComp
  split
  · exact Inside.refl s
  · exact withdraw_inside _ _ s

theorem claimSupply_inside (c : Comp) (st : StepRec) (s : State) : Inside s (claimSupply c st s) := by
  unfold claimSupply
  extract_lets s1
  have h1 : Inside s s1 := Inside.modComp s c _
  split
  · exact h1.trans (appendEntry_inside _ _ _)
  · exact h1

theorem enterHeld_inside (c : Comp) (sup : Supply) (causes : HoldSet) (s : State) :
    Inside s (enterHeld c sup causes s) :=
  ((withdraw_inside sup _ s).trans (Inside.modComp _ c _)).trans (post_inside _ _ _)

theorem takeRunningState_inside (c : Comp) (s : State) : Inside s (takeRunningState c s) := by
  unfold takeRunningState
  refine Inside.ite (Inside.modComp s c _) ?_
  split
  · exact Inside.refl s
  · split
    · exact (storePermitted_inside c s).trans (Inside.modComp _ c _)
    · rename_i sup _
      have h : Inside s (storePermitted c (breachTest c sup s)) :=
        (breachTest_inside c sup s).trans (storePermitted_inside c _)
      exact Inside.ite (h.trans (claimSupply_inside c _ _)) (h.trans (enterHeld_inside c _ _ _))

theorem endTreatment_inside (c : Comp) (o : TreatOutcome) (last : Option StepOutcome) (s : State) :
    Inside s (endTreatment c o last s) := by
  unfold endTreatment
  extract_lets s1 s2 s3
  have h1 : Inside s s1 := withdrawComp_inside c s
  have h2 : Inside s s2 := by
    cases last
    · exact h1
    · exact h1.trans (Inside.setStepOutcome s1 c _ _)
  exact ((h2.trans (Inside.modComp s2 c _)).trans (post_inside _ _ _)).trans (post_inside _ _ _)

theorem enterFrom_inside (c : Comp) (l : List StepRec) (i : Nat) (s : State) : Inside s (enterFrom c l i s) := by
  induction l generalizing i s with
  | nil => exact endTreatment_inside c _ _ s
  | cons st rest ih =>
    unfold enterFrom
    have h1 : Inside s (s.modComp c fun x => x.entered i) := Inside.modComp s c _
    exact Inside.ite (((h1.trans (Inside.setStepOutcome _ c _ _)).trans (post_inside _ _ _)).trans (ih _ _))
      (h1.trans (takeRunningState_inside c _))

theorem enterStep_inside (c : Comp) (i : Nat) (s : State) : Inside s (enterStep c i s) := enterFrom_inside c _ i s

theorem closeStep_inside (c : Comp) (o : StepOutcome) (s : State) : Inside s (closeStep c o s) :=
  (((withdrawComp_inside c s).trans (Inside.setStepOutcome _ c _ _)).trans (Inside.modComp _ c _)).trans
    (post_inside _ _ _)

theorem endStep_inside (c : Comp) (o : StepOutcome) (s : State) : Inside s (endStep c o s) :=
  (closeStep_inside c o s).trans (enterStep_inside c _ _)

theorem enterPaused_inside (c : Comp) (cause : RestartCause) (s : State) : Inside s (enterPaused c cause s) :=
  (withdrawComp_inside c s).trans (Inside.modComp _ c _)

theorem addPause_inside (c : Comp) (cause : RestartCause) (f : PauseSet → PauseSet) (s : State) :
    Inside s (addPause c cause f s) := by
  unfold addPause
  extract_lets was s1
  have h1 : Inside s s1 := Inside.modComp s c _
  exact Inside.ite (h1.trans (enterPaused_inside c cause _)) h1

theorem Context.reentered_account (x : Context) (pol : Policy) : (x.reentered pol).account = x.account := by
  cases pol <;> rfl

theorem resume_inside (c : Comp) (s : State) : Inside s (resume c s) :=
  (Inside.modComp s c _ fun x => x.reentered_account _).trans (takeRunningState_inside c _)

theorem removePause_inside (c : Comp) (f : PauseSet → PauseSet) (s : State) : Inside s (removePause c f s) := by
  unfold removePause
  extract_lets was s1
  have h1 : Inside s s1 := Inside.modComp s c _
  exact Inside.ite (h1.trans (resume_inside c _)) h1

theorem release_inside (c : Comp) (s : State) : Inside s (release c s) := by
  unfold release
  split
  · exact Inside.refl s
  · rename_i st _
    refine Inside.trans (Inside.modComp s c _ fun x => ?_) (claimSupply_inside c _ _)
    cases st.policy <;> rfl

theorem evaluateRunning_inside (c : Comp) (s : State) : Inside s (evaluateRunning c s) := by
  unfold evaluateRunning
  split
  · exact storePermitted_inside c s
  · exact Inside.ite (storePermitted_inside c s)
      (((breachTest_inside c _ s).trans (storePermitted_inside c _)).trans (enterHeld_inside c _ _ _))

theorem evaluateHeld_inside (c : Comp) (s : State) : Inside s (evaluateHeld c s) := by
  unfold evaluateHeld
  split
  · exact storePermitted_inside c s
  · exact Inside.ite ((storePermitted_inside c s).trans (release_inside c _))
      ((storePermitted_inside c s).trans (Inside.modComp _ c _))

theorem evaluate_inside (c : Comp) (s : State) : Inside s (evaluate c s) := by
  unfold evaluate
  split
  · exact evaluateRunning_inside c s
  · exact evaluateRunning_inside c s
  · exact evaluateHeld_inside c s
  · exact storePermitted_inside c s
  all_goals exact Inside.refl s

theorem evaluateAll_inside (pick : Context → Bool) (s : State) : Inside s (evaluateAll pick s) :=
  Inside.foldl (fun s c => Inside.ite (evaluate_inside c s) (Inside.refl s)) _ s

theorem skipRange_length (plan : List StepRec) (i n : Nat) : (skipRange plan i n).length = plan.length := by
  induction n generalizing plan i with
  | zero => rfl
  | succ n ih => exact (ih _ _).trans (setOutcome_length _ _ _)

theorem heatRule_inside (c : Comp) (s : State) : Inside s (heatRule c s) := by
  unfold heatRule
  extract_lets s1
  have h1 : Inside s s1 := Inside.modComp s c _
  split
  · exact h1
  · have h2 : Inside s (closeStep c .heatStop s1) := h1.trans (closeStep_inside c _ _)
    refine Inside.ite h1 ?_
    split
    · refine Inside.trans ?_ (enterStep_inside c _ _)
      have h3 (a n : Nat) := h2.trans
        (Inside.setPlan _ c (skipRange ((closeStep c .heatStop s1).plan c) a n) (skipRange_length _ _ _))
      exact Inside.ite (h3 _ _) ((h3 _ _).trans (post_inside _ _ _))
    · exact (h2.trans (Inside.setPlan _ c _ (skipRange_length _ _ _))).trans (endTreatment_inside c _ _ _)

theorem moistRule_inside (c : Comp) (s : State) : Inside s (moistRule c s) := by
  unfold moistRule
  extract_lets s1
  have h1 : Inside s s1 := Inside.modComp s c _
  exact Inside.ite ((h1.trans (closeStep_inside c _ _)).trans (enterStep_inside c _ _)) h1

theorem endTest_inside (c : Comp) (s : State) : Inside s (endTest c s) :=
  Inside.ite (endStep_inside c _ s) (Inside.refl s)

/-! ### The Exposure Accountant -/

theorem heatWarnTest_inside (c : Comp) (prof : Profile) (s : State) : Inside s (heatWarnTest c prof s) :=
  Inside.ite ((Inside.modComp s c _).trans (post_inside _ _ _)) (Inside.refl s)

theorem moistWarnTest_inside (c : Comp) (prof : Profile) (s : State) : Inside s (moistWarnTest c prof s) :=
  Inside.ite ((Inside.modComp s c _).trans (post_inside _ _ _)) (Inside.refl s)

theorem warnTests_inside (c : Comp) (prof : Profile) (s : State) : Inside s (warnTests c prof s) := by
  have h : Inside s (moistWarnTest c prof (heatWarnTest c prof s)) :=
    (heatWarnTest_inside c prof s).trans (moistWarnTest_inside c prof _)
  exact Inside.ite (h.trans (restrainComp_inside c _)) h

theorem limitTests_inside (c : Comp) (prof : Profile) (s : State) : Inside s (limitTests c prof s) := by
  unfold limitTests
  extract_lets x heat moist s1 s2
  have h1 : Inside s s1 := Inside.ite (recordBreach_inside _ s rfl) (Inside.refl s)
  have h2 : Inside s s2 := Inside.ite (h1.trans (heatRule_inside c _)) h1
  exact Inside.ite (h2.trans (moistRule_inside c _)) h2

theorem markReport_inside (c : Comp) (s : State) : Inside s (markReport c s) := by
  unfold markReport
  split
  · exact Inside.refl s
  · split
    · exact Inside.refl s
    · exact Inside.ite (markBand_inside c _ s) (Inside.refl s)

/-- R64: what follows the accounting of a report is work inside the part: the account stands as step 2 left it. -/
theorem accountReport_inside (c : Comp) (seq : Byte) (t : Int) (h w : Nat) (s : State) :
    Inside (s.modComp c fun x => x.accounted (s.profile (s.comp c).profile) seq t h w)
      (accountReport c seq t h w s) :=
  ((((markReport_inside c _).trans (warnTests_inside c _ _)).trans (limitTests_inside c _ _)).trans
    (endTest_inside c _)).trans (evaluate_inside c _)

/-- R48, R49, R64: everything a report can do. -/
theorem takeReport_cases (c : Comp) (seq : Byte) (t : Int) (h w : Nat) (s : State) :
    ((s.comp c).lastSeq = some seq ∧ takeReport c seq t h w s = none) ∨
      ((s.comp c).lastSeq ≠ some seq ∧ s.running c = true ∧
        takeReport c seq t h w s = some (accountReport c seq t h w s)) ∨
      ((s.comp c).lastSeq ≠ some seq ∧ s.running c = false ∧
        takeReport c seq t h w s = some (s.modComp c fun x => x.stored seq t h w)) := by
  unfold takeReport
  split
  case isTrue e => exact .inl ⟨e, rfl⟩
  case isFalse e =>
    split
    case isTrue r => exact .inr (.inl ⟨e, r, rfl⟩)
    case isFalse r => exact .inr (.inr ⟨e, by simpa using r, rfl⟩)

/-! ### Doors, modes, resets -/

theorem doorOpened_inside (c : Comp) (s : State) : Inside s (doorOpened c s) := by
  unfold doorOpened
  refine Inside.ite (Inside.refl s) (Inside.ite (Inside.modComp s c _) ?_)
  extract_lets s1 s2
  have h2 : Inside s s2 := (Inside.modComp s c _).trans (post_inside _ _ _)
  exact Inside.ite ((h2.trans (Inside.modComp s2 c _)).trans (endTreatment_inside c _ _ _))
    (h2.trans (addPause_inside c _ _ _))

theorem doorClosed_inside (c : Comp) (s : State) : Inside s (doorClosed c s) :=
  Inside.ite (Inside.refl s)
    (Inside.ite (Inside.modComp s c _) ((Inside.modComp s c _).trans (removePause_inside c _ _)))

theorem withdrawSuppliers_inside (s : State) : Inside s (withdrawSuppliers s) :=
  (withdraw_inside _ _ s).trans (withdraw_inside _ _ _)

theorem eachRunning_inside (f : Comp → State → State) (h : ∀ c s, Inside s (f c s)) (s : State) :
    Inside s (eachRunning f s) :=
  Inside.foldl (fun s c => Inside.ite (h c s) (Inside.refl s)) _ s

theorem staleAll_inside (s : State) : Inside s (staleAll s) := eachRunning_inside _ (fun c s => Inside.modComp s c _) s

/-! ### Standing -/

theorem postStanding_inside (p : Port) (s : State) : Inside s (postStanding p s) := by
  unfold postStanding
  have h1 := postTo_inside p .standing { Detail.none with supplies := standingSupplies p } s
  exact Inside.ite h1 (h1.trans (postTo_inside _ _ _ _))

theorem supplierStanding_inside (u : Supplier) (old new : Standing) (s : State) :
    Inside s (supplierStanding u old new s) := by
  unfold supplierStanding
  split
  · exact restrain_inside _ _ _ s
  · exact restrain_inside _ _ _ s
  · exact supplierOut_inside u s
  · exact recompute_inside _ s
  · exact Inside.refl s
  · exact Inside.refl s

theorem cabinetStanding_inside (old new : Standing) (s : State) : Inside s (cabinetStanding old new s) := by
  unfold cabinetStanding
  refine Inside.trans ?_ (evaluateAll_inside _ _)
  split
  · exact runPass_inside _ _ _ _ s
  · exact runPass_inside _ _ _ _ s
  · exact Inside.refl s

/-- R143: what a change of standing makes the other blocks do. -/
theorem standingChanged_inside (p : Port) (old new : Standing) (s : State) :
    Inside s (standingChanged p old new s) := by
  have h := postStanding_inside p s
  cases p
  · exact h
  · exact h.trans (supplierStanding_inside _ _ _ _)
  · exact h.trans (supplierStanding_inside _ _ _ _)
  · exact h.trans (cabinetStanding_inside _ _ _)

/-- R143, R148: everything scoreEvent can do: nothing in WATCH; else it writes the port's scores and, where the standing
changed, does what standingChanged does. -/
theorem scoreEvent_cases (p : Port) (e : ScoreEvent) (s : State) :
    (s.mode = .watch ∧ scoreEvent p e s = s) ∨
      (s.mode ≠ .watch ∧ Inside (s.setScore p ((s.score p).after p e)) (scoreEvent p e s)) := by
  unfold scoreEvent
  split
  case isTrue h => exact .inl ⟨h, rfl⟩
  case isFalse h => exact .inr ⟨h, Inside.ite (Inside.refl _) (standingChanged_inside p _ _ _)⟩

/-! ### Timers -/

theorem stepExpiry_inside (c : Comp) (s : State) : Inside s (stepExpiry c s) :=
  (Inside.modComp s c _).trans (endStep_inside c _ _)

theorem capExpiry_inside (c : Comp) (s : State) : Inside s (capExpiry c s) :=
  (Inside.modComp s c _).trans (endStep_inside c _ _)

theorem doorExpiry_inside (c : Comp) (s : State) : Inside s (doorExpiry c s) :=
  (Inside.modComp s c _).trans (endTreatment_inside c _ _ _)

end Sys2Proof.Machine
end

