-- ==== Sys2Proof/Laws/Wire.lean ====
section
/-! SUPPORT. What clocks within a window can do (R160), said once: a run of clocks that leaves the byte unfinished only
records its bits and whether a reply is going out; a run that ends with the eighth bit hands the byte to record assembly
and moves the outbound queue. -/

namespace Sys2Proof.Machine

theorem byteOfWire_wireBits (b : Byte) : byteOfWire (wireBits b) = b := by
  revert b
  decide

@[simp] theorem wireBits_length (b : Byte) : (wireBits b).length = 8 := rfl

@[simp] theorem State.setCpi_setCpi (s : State) (p : Port) (x y : Cpi) : (s.setCpi p x).setCpi p y = s.setCpi p y := by
  cases p <;> rfl

@[simp] theorem Cpi.beginByte_bits (x : Cpi) : x.beginByte.bits = x.bits := by
  unfold Cpi.beginByte
  split <;> rfl

theorem Cpi.beginByte_of_bits_ne_nil {x : Cpi} (h : x.bits ≠ []) : x.beginByte = x := by
  simp [Cpi.beginByte, h]

@[simp] theorem Cpi.beginByte_grown (x : Cpi) (l : List Bool) (b : Bool) :
    ({ x with bits := l ++ [b] } : Cpi).beginByte = { x with bits := l ++ [b] } :=
  Cpi.beginByte_of_bits_ne_nil (by simp)

@[simp] theorem Cpi.endByte_grown (x : Cpi) (l : List Bool) : ({ x with bits := l } : Cpi).endByte = x.endByte := by
  unfold Cpi.endByte Cpi.clockOut
  dsimp only
  repeat' split
  all_goals rfl

theorem clockBit_unfinished {p : Port} {s : State} (b : Bool) (h : (s.cpi p).bits.length < 7) :
    clockBit p s b = s.setCpi p { (s.cpi p).beginByte with bits := (s.cpi p).bits ++ [b] } := by
  simp [clockBit, show (s.cpi p).bits.length + 1 < 8 by omega]

theorem clockBit_eighth {p : Port} {s : State} (b : Bool) (h : (s.cpi p).bits.length = 7) :
    clockBit p s b
      = assemble p (byteOfWire ((s.cpi p).bits ++ [b])) (s.setCpi p (s.cpi p).beginByte.endByte) := by
  simp [clockBit, h]

/-- Clocks that leave the byte unfinished, one at least. -/
theorem foldl_clockBit_unfinished {p : Port} (l : List Bool) {s : State} (b : Bool)
    (h : (s.cpi p).bits.length + l.length < 7) :
    (b :: l).foldl (clockBit p) s
      = s.setCpi p { (s.cpi p).beginByte with bits := (s.cpi p).bits ++ b :: l } := by
  induction l generalizing s b with
  | nil => simpa using clockBit_unfinished b (by simpa using h)
  | cons c l ih =>
    simp only [List.length_cons] at h
    rw [List.foldl_cons, clockBit_unfinished b (by omega), ih c (by simp; omega), State.setCpi_cpi,
      Cpi.beginByte_grown, State.setCpi_setCpi, List.append_assoc]
    rfl

/-- Clocks that end with the byte's eighth bit. -/
theorem foldl_clockBit_byte {p : Port} (l : List Bool) {s : State} (b : Bool)
    (h : (s.cpi p).bits.length + l.length = 7) :
    (b :: l).foldl (clockBit p) s
      = assemble p (byteOfWire ((s.cpi p).bits ++ b :: l)) (s.setCpi p (s.cpi p).beginByte.endByte) := by
  induction l generalizing s b with
  | nil => simpa using clockBit_eighth b (by simpa using h)
  | cons c l ih =>
    simp only [List.length_cons] at h
    rw [List.foldl_cons, clockBit_unfinished b (by omega), ih c (by simp; omega), State.setCpi_cpi,
      Cpi.beginByte_grown, State.setCpi_setCpi, Cpi.endByte_grown, List.append_assoc]
    rfl

/-- A whole byte, clocked from its first bit. -/
theorem clockBits_byte {p : Port} {s : State} (b : Byte) (h : (s.cpi p).bits = []) :
    clockBits p ⟨b, 8⟩ s = assemble p b (s.setCpi p (s.cpi p).beginByte.endByte) := by
  have := foldl_clockBit_byte (p := p) (s := s) (wireBits b).tail (bitOf b 7) (by simp [h])
  rw [h, List.nil_append] at this
  exact this.trans (by rw [show bitOf b 7 :: (wireBits b).tail = wireBits b from rfl, byteOfWire_wireBits])

end Sys2Proof.Machine
end

