-- ==== Sys2Proof/Tests/Slice0.lean ====
section
/-! SUPPORT. Small tests: the well-formedness checks, records written out from the layouts, single steps with values of
the spec's own examples, and one witness theorem for every statement that has hypotheses. -/

namespace Sys2Proof.Tests

open Sys2Proof.Machine

/-! ### Small states -/

/-- The part in SERVICE with nothing running. -/
def svc : State := { State.reset with mode := .service }

/-- The profile row of the worked lookup of 2.4. -/
def silk : Profile :=
  { present := true, requires := ⟨true, false⟩, tRef := 400, hRef := 700, hHot := 850, hdLimit := 360000,
    mdLimit := 300000, wMax := 40, bandBase := 300, bandWidth := 50 }

def dwell : StepRec := ⟨.dwell, .sec, .wall, some 30, none, none, .continueStep, none, .notYet⟩
def steam : StepRec := ⟨.steam, .min, .gated, some 5, none, some 20, .continueStep, some ⟨1, 60, 20⟩, .notYet⟩
def cool : StepRec := ⟨.cool, .sec, .wall, some 60, none, none, .repeatStep, some ⟨2, 40, 10⟩, .notYet⟩
def dryto : StepRec := ⟨.dry, .ten, .dryto, none, some 450, some 90, .continueStep, some ⟨3, 60, 20⟩, .notYet⟩

/-- A running context of profile 5 with a fresh report. -/
def ctx (st : TreatState) : Context :=
  { Context.powerOn with state := st, profile := 5, report := .fresh, baseline := true, lastSeq := some 16 }

/-- SERVICE with profile 5 present and C0 holding a context and a plan. -/
def withC0 (x : Context) (plan : List StepRec) : State :=
  { svc with
    profiles := State.reset.profiles.set 5 silk
    comps := ⟨x, .powerOn, .powerOn⟩
    plans := ⟨plan, [], []⟩ }

/-- The same with a field of a port's CPI changed. -/
def withCpi (p : Port) (f : Cpi → Cpi) (s : State) : State := s.modCpi p f

/-- SERVICE with an entry list on a supply. -/
def withEntries (sup : Supply) (cap : Nat) (es : List Entry) (s : State) : State :=
  s.setSupply sup
    ⟨cap, 7, es.any fun e => e.offered.isSome, if es.any fun e => e.offered.isSome then 3 else 0, es,
      (es.filter fun e => e.held != 0).map Entry.claimant⟩

/-- The state a command leaves. -/
def after (c : Instr) (s : State) : State :=
  match exec c s with
  | .next t => t
  | .fault _ => s
  | .refused _ => s

/-! ### Well-formedness: each check refuses an ill-formed command -/

theorem test_wellFormed_refuses_short_record : (Instr.recordComplete .panel ⟨5, 1, 0, [0]⟩).wellFormed = false := by
  decide

theorem test_wellFormed_refuses_short_malformed_record :
    (Instr.malformedRecord .panel ⟨5, 0x40, 0, [0]⟩).wellFormed = false := by decide

theorem test_wellFormed_refuses_good_request_as_malformed :
    (Instr.malformedRecord .panel ⟨4, 0x05, 0, [0]⟩).wellFormed = false := by decide

theorem test_wellFormed_refuses_a_record_of_length_zero :
    (Instr.recordComplete .panel ⟨0, 1, 0, []⟩).wellFormed = false
      ∧ (Instr.malformedRecord .panel ⟨0, 0x40, 0, []⟩).wellFormed = false := by decide

theorem test_wellFormed_refuses_no_clocks_and_nine :
    (Instr.byteExchange .panel ⟨0x55, 0⟩).wellFormed = false
      ∧ (Instr.byteExchange .panel ⟨0x55, 9⟩).wellFormed = false := by decide

theorem test_wellFormed_refuses_empty_and_long_images :
    (Instr.tblwr .panel 0 []).wellFormed = false ∧ (Instr.tblwr .panel 0 (List.replicate 14 0)).wellFormed = false := by
  decide

theorem test_no_word_spells_a_command : decodeTableWord 8 0x55 = none ∧ svc.withFetchWord 8 0x55 = svc := by
  exact ⟨rfl, rfl⟩

/-! ### Records written out from the layouts of 10.6 -/

theorem test_sensrep_record : (⟨10, 0x09, 7, [1, 0x20, 0xFF, 0x9C, 0x03, 0x84, 0x2A]⟩ : Record).request
    = some (.sensrep 1 0x20 0xFF9C 0x0384 0x2A) := by decide

theorem test_plnadd_record : (⟨15, 0x02, 7, [2, 0x25, 3, 0, 30, 0, 0, 0, 0, 60, 40, 20]⟩ : Record).request
    = some (.plnadd 2 0x25 3 30 0 60 40 20) := by decide

theorem test_suprep_confirm_records :
    (⟨6, 0x0B, 7, [90, 0x01, 0xF4]⟩ : Record).request = some (.suprep 90 500)
      ∧ (⟨6, 0x0E, 7, [1, 0x01, 0x02]⟩ : Record).request = some (.confirm 1 0x0102) := by decide

theorem test_ntmask_modeset_records :
    (⟨5, 0x16, 7, [0x80, 0x01]⟩ : Record).request = some (.ntmask 0x8001)
      ∧ (⟨4, 0x18, 7, [2]⟩ : Record).request = some (.modeset 2)
      ∧ (⟨5, 0x18, 7, [2, 0]⟩ : Record).request = none ∧ (⟨3, 0x1B, 7, []⟩ : Record).request = none := by decide

/-! ### Values of the spec's tables and worked examples -/

/-- R58, its table. -/
theorem test_warn_levels :
    [1, 7, 9, 800, 1200, 300000, 360000, 16777215].map warnLevel = [1, 7, 8, 700, 1050, 262500, 315000, 14680064] := by
  decide

/-- R77, its table: the largest draw that is not an overdraw, and one watt more. -/
theorem test_overdraw_bounds :
    [(50, 0), (890, 800), (1100, 1000), (2150, 2000), (2570, 2400)].map
      (fun x => (overdraw x.1 x.2, overdraw (x.1 + 1) x.2)) = List.replicate 5 (false, true) := by decide

/-- R33: bands of the silk profile; 299 lies below the ladder, 455 in band 3, 1250 above it. -/
theorem test_band_index :
    [299, 300, 349, 350, 455, 520, 1250].map (bandIndex 300 50) = [0, 0, 0, 1, 3, 4, 7] := by decide

/-- R54: the increment of the report at t = 5 of the worked series 3.8. -/
theorem test_heat_increment : heatIncrement 12 5 (humidityFactor silk 880) = 90 := by decide

/-- R86, its illustration: a fall of C from 60 to 45 takes the newer grant to 20 and then the older to 25. -/
theorem test_shed_tie :
    ((allocate 45 false Entry.want
      [⟨.comp .c0, 2, false, 20, 30, 30, none, false⟩, ⟨.comp .c2, 2, false, 20, 30, 30, none, false⟩]
      [.comp .c0, .comp .c2]).slots.map fun x => x.entry.inForce) = [25, 20] := by decide

/-- The cascade of 4.7: C1's claim of code 0 takes its min of 10 from C0, and none from C2, which is at its min. -/
theorem test_preemption :
    ((allocate 50 false Entry.want
      [⟨.comp .c0, 2, false, 20, 40, 35, none, false⟩, ⟨.comp .c2, 4, false, 15, 30, 15, none, false⟩,
        ⟨.comp .c1, 0, false, 10, 30, 0, none, false⟩]
      [.comp .c0, .comp .c2]).slots.map fun x => (x.entry.inForce, x.entry.offered))
      = [(25, none), (15, none), (0, some 10)] := by decide

/-- R140, R143: a SUPREP found overdrawing with RFS 130 and DFS 250 leaves 127 and 258, CUT. -/
theorem test_score_of_accepted_overdraw :
    (⟨130, 250, .limited, 0⟩ : Score).after .boiler { ScoreEvent.none with accepted := true, duty := true }
      = ⟨127, 258, .cut, 0⟩ := by decide

/-- R147: the SENSREP of a CUT CABINET port that brings its count to 32 readmits it. -/
theorem test_readmission :
    (⟨0, 256, .cut, 31⟩ : Score).after .cabinet { ScoreEvent.none with accepted := true, clean := true }
      = ⟨0, 0, .good, 0⟩ := by decide

/-- R174, R175: a TBLPTR and a TBLRD of CONFIG answer the image of the power-on values (R177). -/
theorem test_config_image :
    configImage ConfigRec.powerOn = [0x0E, 0x10, 0x00, 0xC8, 25, 40, 0x38, 10, 10, 0x00, 0x78, 0x01, 0x3F] := by decide

theorem test_tstart_holds_for_want_of_a_report :
    (after (.tstart .panel 9 0) (withC0 (ctx .loaded) [steam])).comps.c0.state = .held := by decide

theorem test_dwell_is_active_at_once :
    (after (.tstart .panel 9 0) (withC0 (ctx .loaded) [dwell])).comps.c0.state = .active := by decide

/-- R160, R168: a window that closes within the first byte of the head reply keeps it through a PORTRST, and the next
window sends it whole. -/
theorem test_reply_cut_within_its_first_byte_is_sent_whole :
    let s := svc.modCpi .panel fun x => { x with selected := true, outbound := [[4, 0x81, 7, 0], [4, 0x82, 8, 0]] }
    let t := after (.portrst .panel 9) (after (.selectWindowClose .panel) (after (.byteExchange .panel ⟨0, 3⟩) s))
    (t.cpi .panel).outbound = [[4, 0x81, 7, 0], [4, 0x9A, 9, 0]]
      ∧ ((after (.byteExchange .panel ⟨0, 8⟩) (after (.selectWindowOpen .panel) t)).cpi .panel).lastOut = 4 := by decide

/-- R161: while the rest of a window is discarded no record completes in it. -/
theorem test_no_record_completes_while_discarding :
    let s := svc.modCpi .panel fun x => { x with selected := true, assembly := .discarding }
    ((after (.recordComplete .panel ⟨3, 8, 0, []⟩) s).cpi .panel).inbound = [] := by decide

theorem test_pwrreq_is_offered :
    ((after (.pwrreq .boiler 9 800 2000) (svc.modFeeder .boiler fun x => { x with silent := false })).supplies.mains.entries.map
      Entry.offered) = [some 2000] := by decide

theorem test_step_expiry_ends_the_treatment :
    (after (.stepTimerExpiry .c0)
      (withC0 { ctx .active with stepUnits := 29 } [dwell])).comps.c0.outcome = .complete := by decide

/-! ### Witnesses: a concrete state and operands that meet the hypotheses of each statement

Statements without hypotheses (StepRunsTheFrontCommand, PowerOnSetsEveryBlock, PowerOnMeetsEveryCondition) need none. -/

theorem running_free (s : State) (h : ∀ c, s.running c = false) (h' : ∀ c sup, s.entry sup (.comp c) = none) :
    EntriesWhileRunning s := by
  intro c
  exact ⟨fun hr => absurd hr (by simp [h c]), fun sup he => absurd he (by simp [h' c sup])⟩

theorem entries_right_svc : EntriesWhileRunning svc :=
  running_free _ (by intro c; cases c <;> decide) (by intro c sup; cases c <;> cases sup <;> decide)

/-- C0 WAITING with its steam entry. -/
def waitingSteam : State :=
  withEntries .steam 60 [⟨.comp .c0, 2, false, 20, 60, 0, some 60, false⟩] (withC0 (ctx .waiting) [steam, cool])

theorem entries_right_waiting : EntriesWhileRunning waitingSteam := by
  intro c
  cases c <;> exact ⟨by decide, fun sup => by cases sup <;> decide⟩

theorem supplies_safe_waiting : SuppliesSafe waitingSteam := by
  intro sup
  cases sup <;> (unfold SupplyRec.safe; decide)

/-- C0 PAUSED by its open door. -/
def pausedDoor : State :=
  withC0 { ctx .paused with pause := ⟨false, true, false⟩, doorOpen := true } [dwell]

theorem entries_right_paused : EntriesWhileRunning pausedDoor := by
  intro c
  cases c <;> exact ⟨by decide, fun sup => by cases sup <;> decide⟩

theorem witness_SelectWindowsOpenAndClose :
    (svc.cpi .panel).selected = false
      ∧ (∃ s : State, (s.cpi .panel).selected = true ∧ ∀ bytes, (s.cpi .panel).assembly ≠ .assembling bytes)
      ∧ ∃ s : State, (s.cpi .panel).selected = true ∧ (s.cpi .panel).assembly = .assembling [4] :=
  ⟨by decide,
    ⟨withCpi .panel (fun x => { x with selected := true }) svc, by decide, by intro bytes h; cases h⟩,
    ⟨withCpi .panel (fun x => { x with selected := true, assembly := .assembling [4] }) svc, by decide, by decide⟩⟩

theorem witness_ByteExchangeClocksOneByteEachWay :
    (svc.cpi .panel).selected = false
      ∧ (let s := withCpi .panel (fun x => { x with selected := true }) svc;
        (s.cpi .panel).selected = true ∧ (s.cpi .panel).bits = (List.range 0).map (fun i => (0xA5 : Byte).getMsbD i)
          ∧ (s.cpi .panel).outbound.isEmpty = true ∧ (s.cpi .panel).assembly = .idle)
      ∧ (let s := withCpi .panel (fun x => { x with
            selected := true, bits := [true, false, true], begun := true, outbound := [[4, 0x81, 0, 0]], sent := 3,
            assembly := .discarding }) svc;
        (s.cpi .panel).selected = true ∧ (s.cpi .panel).bits = (List.range 3).map (fun i => (0xA5 : Byte).getMsbD i)
          ∧ (s.cpi .panel).begun = true ∧ (s.cpi .panel).outbound = [4, 0x81, 0, 0] :: []
          ∧ (s.cpi .panel).sent < [4, 0x81, 0, (0 : Byte)].length ∧ (s.cpi .panel).assembly = .discarding)
      ∧ (let s := withCpi .panel (fun x => { x with
            selected := true, bits := [true, false, true, false, false, true, false] }) svc;
        (s.cpi .panel).bits = (List.range 7).map (fun i => (0xA5 : Byte).getMsbD i)
          ∧ (s.cpi .panel).begun = false) := by decide

theorem witness_RecordIsAssembledFromItsBytes :
    let s := withCpi .panel (fun x => { x with selected := true }) svc
    (s.cpi .panel).selected = true ∧ (s.cpi .panel).assembly = .idle ∧ (s.cpi .panel).bits = []
      ∧ (∀ r ∈ ([⟨3, 8, 0, []⟩, ⟨16, 0x13, 0, List.replicate 13 0⟩, ⟨17, 8, 0, []⟩, ⟨1, 8, 0, []⟩] : List Record),
        r.len ≠ 0x00 ∧ r.complete = true ∧ (s.cpi .panel).inboundLength + storedLength r.len ≤ 64) := by decide

/-- The PANEL's inbound queue holding some records of length 3 and 16. -/
def queued (n m : Nat) : State :=
  withCpi .panel (fun x => { x with
    inbound := List.replicate n ⟨3, 8, 0, []⟩ ++ List.replicate m ⟨16, 0x13, 0, List.replicate 13 0⟩ }) svc

theorem witness_CompleteRecordIsStoredOrDropped :
    let r : Record := ⟨4, 5, 0, [0]⟩
    r.complete = true ∧ ((queued 4 3).cpi .panel).inboundLength + storedLength r.len = 64
      ∧ ((queued 15 1).cpi .panel).inboundLength + storedLength r.len = 65
      ∧ ((queued 15 1).cpi .panel).selected = false ∧ (⟨0, 5, 0, []⟩ : Record).len = 0x00 := by decide

theorem witness_CompleteRecordIsStoredOrDropped_in_a_window :
    let r : Record := ⟨4, 5, 0, [0]⟩
    r.complete = true
      ∧ (∃ s : State, (s.cpi .panel).selected = true ∧ (s.cpi .panel).assembly = .discarding)
      ∧ (∃ s : State, (s.cpi .panel).selected = true ∧ (s.cpi .panel).assembly = .assembling [4, 6]
        ∧ ¬ [4, 6] <+: [r.len, r.kind, r.tag] ++ r.body)
      ∧ ∃ s : State, (s.cpi .panel).selected = true ∧ (s.cpi .panel).assembly = .assembling [4, 5, 0]
        ∧ [4, 5, 0] <+: [r.len, r.kind, r.tag] ++ r.body
        ∧ (s.cpi .panel).inboundLength + storedLength r.len ≤ 64 :=
  ⟨by decide,
    ⟨withCpi .panel (fun x => { x with selected := true, assembly := .discarding }) svc, by decide⟩,
    ⟨withCpi .panel (fun x => { x with selected := true, assembly := .assembling [4, 6] }) svc, by decide⟩,
    ⟨withCpi .panel (fun x => { x with selected := true, assembly := .assembling [4, 5, 0] }) svc, by decide⟩⟩

theorem witness_RequestTakeWaitsOrTakes :
    (svc.cpi .panel).inbound = []
      ∧ (let s := withCpi .panel (fun x => { x with outbound := [List.replicate 97 4] }) svc;
        128 < (s.cpi .panel).outboundLength + 32)
      ∧ (let s := (withCpi .panel (fun x => { x with interval := 0 }) svc).setScore .panel ⟨128, 0, .limited, 0⟩;
        s.standing .panel = .limited ∧ (s.cpi .panel).interval = 0)
      ∧ (let s := withCpi .panel (fun x => { x with outbound := [List.replicate 96 4] }) (queued 1 0);
        (s.cpi .panel).inbound = ⟨3, 8, 0, []⟩ :: [] ∧ (s.cpi .panel).outboundLength + 32 ≤ 128
          ∧ (s.standing .panel = .limited → 1 ≤ (s.cpi .panel).interval)) := by decide

theorem witness_EveryTakeQueuesOneReply :
    ((queued 1 0).cpi .panel).inbound = ⟨3, 8, 0, []⟩ :: [] ∧ takeReady .panel (queued 1 0) = true := by decide

theorem witness_RequestsThatWaitAreStored :
    Request.brkclr.row .panel 7 = some (.brkclr .panel 7) ∧ takesAtOnce .panel (queued 1 3) = false
      ∧ ((queued 15 1).cpi .panel).inboundLength + (Request.brkclr.body.length + 3) = 64
      ∧ ((queued 10 2).cpi .panel).inboundLength + (Request.brkclr.body.length + 3) = 65
      ∧ takesAtOnce .panel (queued 10 2) = false ∧ takesAtOnce .panel (queued 15 1) = false := by decide

theorem witness_RequestRecordsDecodeToTheirRequests :
    ∀ image, Request.tblwr (List.replicate 13 0) = .tblwr image → 1 ≤ image.length ∧ image.length ≤ 13 := by
  intro image h
  cases h
  decide

theorem witness_MalformedRecordIsAnsweredAndCharged :
    takesAtOnce .cabinet svc = true ∧ (⟨3, 0x13, 0, []⟩ : Record).complete = true
      ∧ (⟨3, 0x13, 0, []⟩ : Record).request = none ∧ (⟨17, 0x01, 0, []⟩ : Record).complete = true
      ∧ (⟨17, 0x01, 0, []⟩ : Record).request = none := by decide

theorem witness_RequestsOfAnotherRoleAreRefused :
    (Request.tblwr [0]).row .cabinet 7 = some (.tblwr .cabinet 7 [0]) ∧ takesAtOnce .cabinet svc = true
      ∧ (Request.tblwr [0]).kind ∉ roleKinds .cabinet := by decide

/-- A port CUT by its request fault score. -/
def cutPort (p : Port) : State := svc.setScore p ⟨256, 0, .cut, 31⟩

theorem witness_CutPortsRequestsAreRefused :
    Request.brkclr.row .panel 7 = some (.brkclr .panel 7) ∧ takesAtOnce .panel (cutPort .panel) = true
      ∧ (cutPort .panel).standing .panel = .cut ∧ Request.brkclr.kind ∈ roleKinds .panel
      ∧ Request.brkclr.kind ∉ cutKinds := by decide

theorem witness_AcceptedRequestLowersRfs :
    let s := svc.setScore .panel ⟨128, 0, .limited, 0⟩
    let i : Instr := .ntmask .panel 7 0
    (Request.ntmask 0).row .panel 7 = some i ∧ takesAtOnce .panel s = true ∧ s.standing .panel ≠ .cut
      ∧ exec i s = .next (after i s) ∧ (after i s).mode ≠ .watch ∧ (Request.ntmask 0).kind ≠ 0x19
      ∧ ((after i s).cpi .panel).outbound.getLast? = some [0x04, 0x96, 7, 0x00] :=
  ⟨by decide, by decide, by decide, rfl, by decide, by decide, by decide⟩

theorem witness_CutCabinetIsReadmittedByThirtyTwoReports :
    takesAtOnce .cabinet (cutPort .cabinet) = true ∧ (cutPort .cabinet).standing .cabinet = .cut
      ∧ (cutPort .cabinet).mode ≠ .watch ∧ compOf 2 = some .c2 ∧ ((cutPort .cabinet).comp .c2).lastSeq ≠ some 1
      ∧ 32 ≤ ((cutPort .cabinet).score .cabinet).readmission + 1
      ∧ (⟨17, 0x01, 0, []⟩ : Record).complete = true ∧ (⟨17, 0x01, 0, []⟩ : Record).request = none := by decide

/-- The PANEL part, with an accepted NTMASK, a NTDONE answered NONE, and a BRKCLR refused CUT. -/
theorem witness_CutPanelIsReadmittedToo :
    let s := cutPort .panel
    takesAtOnce .panel s = true ∧ s.standing .panel = .cut ∧ s.mode ≠ .watch
      ∧ (Request.ntmask 0).row .panel 7 = some (.ntmask .panel 7 0) ∧ (Request.ntmask 0).kind ∈ roleKinds .panel
      ∧ ((after (.ntmask .panel 7 0) s).cpi .panel).outbound.getLast? = some [0x04, 0x96, 7, 0x00]
      ∧ 32 ≤ (s.score .panel).readmission + 1
      ∧ ((after (.ntdone .panel 7 0) s).cpi .panel).outbound.getLast? = some [0x04, 0x95, 7, 0x03]
      ∧ Request.brkclr.kind ∈ roleKinds .panel
      ∧ ((after (.brkclr .panel 7) s).cpi .panel).outbound.getLast? = some [0x04, 0x88, 7, 0x1C] := by decide

theorem witness_PlnclrEmptiesAPlan : Served .panel svc := by decide

theorem witness_PlnaddAppendsAStep :
    Served .panel (withC0 (ctx .loaded) (List.replicate 11 dwell)) ∧ compOf 0 = some .c0
      ∧ stepOf 0x05 3 30 0 0 60 20 = none ∧ (stepOf 0x40 0 30 0 0 0 0).isSome = true := by decide

theorem witness_AppendedStepIsAsSentAndInRange :
    (∃ st, stepOf 0x04 3 5 0 20 200 120 = some st ∧ st.claim = some ⟨3, 120, 120⟩)
      ∧ (stepOf 0x40 9 1 0 0 0 0).isSome = true ∧ (stepOf 0x8C 7 0 1000 1 1 1).isSome = true
      ∧ (stepOf 0x08 0 0 1 1 255 120).isSome = true ∧ (stepOf 0xC0 0 65535 0 0 255 255).isSome = true :=
  ⟨⟨_, rfl, by decide⟩, by decide⟩

theorem witness_BindChecksAndBinds : Served .panel (withC0 (ctx .loaded) []) := by decide

theorem witness_TstartChecksAndEntersStepZero :
    let s := withC0 (ctx .loaded) [steam]
    Served .panel s ∧ EntriesWhileRunning s ∧ compOf 0 = some .c0 ∧ s.mode = .service ∧ s.running .c0 = false
      ∧ (s.comp .c0).profile ≠ 0 ∧ (s.profile (s.comp .c0).profile).present = true ∧ s.plan .c0 = [steam]
      ∧ (s.config.caps.get .c0).steam = true :=
  ⟨by decide, running_free _ (by intro c; cases c <;> decide) (by intro c sup; cases c <;> cases sup <;> decide),
    by decide⟩

theorem witness_TpausePausesARunningStep :
    Served .panel (withC0 (ctx .active) [dwell]) ∧ compOf 3 = none ∧ compOf 0 = some .c0
      ∧ (withC0 (ctx .active) [dwell]).running .c0 = true
      ∧ ((withC0 (ctx .active) [dwell]).comp .c0).pause = ⟨false, false, false⟩
      ∧ (withC0 (ctx .active) [dwell]).running .c1 = false := by decide

/-- C0 PAUSED by the PANEL on a steam step, with its band open and steam permitted. -/
def pausedPanel (plan : List StepRec) : State :=
  { withC0 { ctx .paused with pause := ⟨true, false, false⟩ } plan with
    bands := State.reset.bands.set 40 ⟨.openAll, .up, 1000, false, false⟩ }

theorem witness_TresumeReentersTheStep :
    Served .panel (pausedPanel [steam]) ∧ (pausedPanel [steam]).running .c0 = true
      ∧ ((pausedPanel [steam]).comp .c0).pause = ⟨true, false, false⟩
      ∧ (pausedPanel [steam]).curStep .c0 = some steam ∧ steam.kind.supply = some .steam
      ∧ permits (pausedPanel [steam]) .c0 .steam = true ∧ (pausedPanel [steam]).config.bench = false
      ∧ steam.claim = some ⟨1, 60, 20⟩ ∧ (pausedPanel [steam]).entry .steam (.comp .c0) = none
      ∧ (pausedPanel [dwell]).curStep .c0 = some dwell ∧ dwell.kind = .dwell
      ∧ (let s := withC0 { ctx .paused with pause := ⟨true, false, false⟩ } [steam];
        s.curStep .c0 = some steam ∧ permits s .c0 .steam = false)
      ∧ Served .panel pausedDoor ∧ pausedDoor.running .c0 = true
      ∧ (pausedDoor.comp .c0).pause ≠ ⟨true, false, false⟩ := by decide

theorem witness_TstopEndsATreatment :
    Served .panel (withC0 (ctx .held) [steam]) ∧ compOf 0 = some .c0
      ∧ (withC0 (ctx .held) [steam]).running .c0 = true ∧ (withC0 (ctx .held) [steam]).curSupply .c0 = some .steam := by
  decide

/-- An entry in force, with the marker set and clear, and one that waits. -/
theorem witness_TstopEndsATreatment_in_force (b : Bool) :
    let e : Entry := ⟨.comp .c0, 2, false, 20, 60, 60, none, false⟩
    let s := withEntries .steam 60 [e] (withC0 { ctx .active with noted := b } [steam])
    Served .panel s ∧ s.running .c0 = true ∧ s.curSupply .c0 = some .steam ∧ s.entry .steam (.comp .c0) = some e
      ∧ 0 < e.inForce ∧ (s.comp .c0).noted = b ∧ s.config.notedNotices = true
      ∧ waitingSteam.entry .steam (.comp .c0) = some ⟨.comp .c0, 2, false, 20, 60, 0, some 60, false⟩ := by
  cases b <;> decide

theorem witness_DoorOpeningPausesOrEnds :
    Served .cabinet waitingSteam ∧ EntriesWhileRunning waitingSteam ∧ compOf 0 = some .c0
      ∧ (waitingSteam.comp .c0).doorOpen = false ∧ waitingSteam.running .c0 = true
      ∧ waitingSteam.curSupply .c0 = some .steam ∧ (waitingSteam.comp .c0).pause = ⟨false, false, false⟩
      ∧ Served .cabinet pausedDoor ∧ EntriesWhileRunning pausedDoor ∧ (pausedDoor.comp .c0).doorOpen = true
      ∧ (waitingSteam.comp .c1).doorOpen = false ∧ waitingSteam.running .c1 = false :=
  ⟨by decide, entries_right_waiting, by decide, by decide, by decide, by decide, by decide, by decide,
    entries_right_paused, by decide⟩

theorem witness_DoorClosingResumes :
    Served .cabinet pausedDoor ∧ EntriesWhileRunning pausedDoor ∧ compOf 0 = some .c0
      ∧ (pausedDoor.comp .c0).doorOpen = true ∧ pausedDoor.running .c0 = true
      ∧ (pausedDoor.comp .c0).pause = ⟨false, true, false⟩ ∧ pausedDoor.curStep .c0 = some dwell
      ∧ dwell.kind = .dwell ∧ (pausedDoor.comp .c1).doorOpen = false :=
  ⟨by decide, entries_right_paused, by decide⟩

/-- C0 PAUSED by its open door on a steam step, with its band open and steam permitted or not. -/
def pausedDoorSteam (report : ReportState) : State :=
  { withC0 { ctx .paused with pause := ⟨false, true, false⟩, doorOpen := true, report := report } [steam] with
    bands := State.reset.bands.set 40 ⟨.openAll, .up, 1000, false, false⟩ }

theorem witness_DoorClosingResumes_of_a_claiming_step (r : ReportState) (h : r = .fresh ∨ r = .stale) :
    let s := pausedDoorSteam r
    Served .cabinet s ∧ EntriesWhileRunning s ∧ (s.comp .c0).doorOpen = true ∧ s.running .c0 = true
      ∧ (s.comp .c0).pause = ⟨false, true, false⟩ ∧ s.curStep .c0 = some steam ∧ steam.claim = some ⟨1, 60, 20⟩
      ∧ permits s .c0 .steam = decide (r = .fresh) ∧ s.config.bench = false
      ∧ (after (.doorrepClosed .cabinet 1 0) s).standing .cabinet = s.standing .cabinet := by
  rcases h with rfl | rfl <;>
    exact ⟨by decide, by intro c; cases c <;> exact ⟨by decide, fun sup => by cases sup <;> decide⟩, by decide⟩

theorem witness_StepAndCapTimerExpiriesEndTheStep :
    (let s := withC0 { ctx .active with stepUnits := 29 } [dwell];
      s.curStep .c0 = some dwell ∧ dwell.duration = some 30 ∧ dwell.ending = .wall ∧ (s.comp .c0).state = .active
        ∧ (s.comp .c0).stepPhase < dwell.unit.seconds
        ∧ (s.comp .c0).stepUnits * dwell.unit.seconds + (s.comp .c0).stepPhase + 1 = 30 * dwell.unit.seconds)
      ∧ (let s := withC0 { ctx .active with stepUnits := 4, stepPhase := 59 } [steam, cool];
        s.curStep .c0 = some steam ∧ steam.duration = some 5 ∧ steam.ending = .gated ∧ (s.comp .c0).state = .active
          ∧ (s.comp .c0).stepPhase < steam.unit.seconds
          ∧ (s.comp .c0).stepUnits * steam.unit.seconds + (s.comp .c0).stepPhase + 1 = 5 * steam.unit.seconds)
      ∧ (let s := withC0 { ctx .held with capUnits := 19, capPhase := 59 } [steam];
        s.curStep .c0 = some steam ∧ steam.cap = some 20 ∧ steam.ending ≠ .wall ∧ (s.comp .c0).state = .held
          ∧ (s.comp .c0).capPhase < steam.unit.seconds
          ∧ (s.comp .c0).capUnits * steam.unit.seconds + (s.comp .c0).capPhase + 1 = 20 * steam.unit.seconds) := by
  decide

theorem witness_DoorTimerExpiryEndsTheTreatment :
    let s := withC0 { ctx .paused with pause := ⟨false, true, false⟩, doorOpen := true, doorTimer := 119 } [dwell]
    s.running .c0 = true ∧ (s.comp .c0).doorOpen = true ∧ (s.comp .c0).doorTimer + 1 = s.config.doorLimit := by decide

theorem witness_TimerSecondCountsOneSecond :
    (let s := withC0 { ctx .active with stepUnits := 28 } [dwell];
      s.curStep .c0 = some dwell ∧ (s.comp .c0).state = .active ∧ dwell.ending = .wall ∧ dwell.duration = some 30
        ∧ (s.comp .c0).stepUnits + 1 < 30)
      ∧ (let s := withC0 { ctx .active with stepUnits := 4, stepPhase := 58, capUnits := 19, capPhase := 58 } [steam];
        s.curStep .c0 = some steam ∧ (s.comp .c0).state = .active ∧ steam.duration = some 5 ∧ steam.cap = some 20
          ∧ (s.comp .c0).stepUnits < 5 ∧ (s.comp .c0).stepPhase + 1 < steam.unit.seconds
          ∧ (s.comp .c0).capUnits < 20 ∧ (s.comp .c0).capPhase + 1 < steam.unit.seconds)
      ∧ (let s := withC0 (ctx .waiting) [cool];
        s.curStep .c0 = some cool ∧ (s.comp .c0).state = .waiting ∧ cool.ending ≠ .gated
          ∧ cool.duration = some 60 ∧ (s.comp .c0).stepUnits + 1 < 60)
      ∧ (let s := withC0 { ctx .active with stepUnits := 65534 } [dryto];
        s.curStep .c0 = some dryto ∧ dryto.ending = .dryto ∧ dryto.duration = none ∧ (s.comp .c0).stepUnits < 65535)
      ∧ (let s := withC0 { ctx .held with capUnits := 18 } [steam];
        s.curStep .c0 = some steam ∧ (s.comp .c0).state = .held ∧ steam.ending ≠ .wall ∧ steam.cap = some 20
          ∧ (s.comp .c0).capUnits + 1 < 20)
      ∧ (let s := withC0 { ctx .paused with doorOpen := true, doorTimer := 118 } [dwell];
        s.running .c0 = true ∧ (s.comp .c0).doorOpen = true ∧ (s.comp .c0).doorTimer + 1 < s.config.doorLimit)
      ∧ (let s := withC0 { ctx .held with watch := 8 } [steam];
        s.running .c0 = true ∧ (s.comp .c0).report = .fresh ∧ (s.comp .c0).watch + 1 < s.config.reportWatch)
      ∧ (let s := svc.modFeeder .boiler fun x => { x with silent := false, watch := 8 };
        s.mode ≠ .setup ∧ (s.feeder .boiler).silent = false ∧ (s.feeder .boiler).watch + 1 < s.config.supplierWatch)
      ∧ (waitingSteam.supply .steam).offerOut = true ∧ 2 ≤ (waitingSteam.supply .steam).window := by decide

theorem witness_StoppedTimersDoNothing :
    svc.running .c0 = false
      ∧ (let s := withC0 (ctx .waiting) [steam];
        s.curStep .c0 = some steam ∧ steam.ending = .gated ∧ (s.comp .c0).state = .waiting
          ∧ (s.comp .c0).doorOpen = false)
      ∧ (let s := withC0 (ctx .active) [dwell];
        ∃ st, s.curStep .c0 = some st ∧ st.ending = .wall)
      ∧ (withC0 { ctx .held with report := .stale } [steam]).running .c0 = true
      ∧ State.reset.mode = .setup ∧ (svc.feeder .dryer).silent = true ∧ (svc.supply .mains).offerOut = false :=
  ⟨by decide, by decide, ⟨dwell, by decide, by decide⟩, by decide, by decide, by decide, by decide⟩

theorem witness_ReportsAreCheckedAndStored :
    takesAtOnce .cabinet svc = true ∧ compOf 3 = none ∧ compOf 0 = some .c0
      ∧ (svc.comp .c0).lastSeq ≠ some 16 ∧ svc.running .c0 = false
      ∧ ((withC0 (ctx .active) [dwell]).comp .c0).lastSeq = some 16 := by decide

theorem witness_RunningReportIsAccounted :
    takesAtOnce .cabinet waitingSteam = true ∧ compOf 0 = some .c0 ∧ (waitingSteam.comp .c0).lastSeq ≠ some 17
      ∧ waitingSteam.running .c0 = true := by decide

/-- C0 with its steam entry, in a band that notes the use of steam. -/
def notingSteam (x : TreatState) (e : Entry) : State :=
  withEntries .steam 60 [e]
    { withC0 (ctx x) [steam] with bands := State.reset.bands.set 40 ⟨.steamNote, .up, 1000, false, false⟩ }

/-- The report keeps the entry in force, or, being wet, ends its in-force period. -/
theorem witness_RunningReportIsAccounted_marks (w : Byte) (h : w = 0 ∨ w = 50) :
    let e : Entry := ⟨.comp .c0, 2, false, 20, 60, 60, none, false⟩
    let s := notingSteam .active e
    let t := after (.sensrep .cabinet 1 0 17 0 0 w) s
    takesAtOnce .cabinet s = true ∧ (s.comp .c0).lastSeq ≠ some 17 ∧ s.running .c0 = true
      ∧ s.curSupply .c0 = some .steam ∧ s.entry .steam (.comp .c0) = some e ∧ 0 < e.inForce
      ∧ (40 : Fin 128).val = (s.comp .c0).profile.val * 8 + (t.curBandIndex .c0).val ∧ (s.band 40).key = .steamNote
      ∧ s.config.bench = false ∧ SuppliesSafe s ∧ EntriesWhileRunning s ∧ s.config.notedNotices = true
      ∧ t.entry .steam (.comp .c0) = (if w = 0 then some e else none) ∧ (t.band 40).steamed = true := by
  rcases h with rfl | rfl <;>
    exact ⟨by decide, by decide, by decide, by decide, by decide, by decide, by decide, by decide, by decide,
      by intro sup; cases sup <;> (unfold SupplyRec.safe; decide),
      by intro c; cases c <;> exact ⟨by decide, fun sup => by cases sup <;> decide⟩, by decide⟩

theorem witness_ReportWarnsAndCrossesLimits :
    let s := withC0 { ctx .active with hd := 360000 } [dwell]
    takesAtOnce .cabinet s = true ∧ compOf 0 = some .c0 ∧ (s.comp .c0).lastSeq ≠ some 17 ∧ s.running .c0 = true
      ∧ s.breach.frozen = false ∧ (s.comp .c0).heatWarned = false ∧ (s.comp .c0).heatLimited = false
      ∧ (s.profile (s.comp .c0).profile).hdLimit ≤ ((after (.sensrep .cabinet 1 0 17 0 0 0) s).comp .c0).hd := by decide

/-- The report turns steam off in the band: the step is HELD, and judged a breach where steam was permitted before. -/
theorem witness_ReportWarnsAndCrossesLimits_breach (b : Bool) :
    let s := (withC0 { ctx .active with permitted := ⟨b, false⟩ } [steam]).setBreach { Breach.clear with frozen := !b }
    let t := after (.sensrep .cabinet 1 0 17 0 0 0) s
    takesAtOnce .cabinet s = true ∧ (s.comp .c0).lastSeq ≠ some 17 ∧ s.running .c0 = true
      ∧ (t.comp .c0).hd < (s.profile 5).hdLimit ∧ (t.comp .c0).md < (s.profile 5).mdLimit
      ∧ t.standing .cabinet = s.standing .cabinet ∧ s.curStep .c0 = some steam ∧ steam.kind.supply = some .steam
      ∧ steam.ending = .gated ∧ (s.comp .c0).state = .active ∧ permits t .c0 .steam = false
      ∧ (removalCauses t .c0 .steam).barred = true ∧ (s.comp .c0).permitted.has .steam = b := by
  cases b <;> decide

/-- Where nothing is crossed: a DRYTO step whose H is reached and not, last in its plan and not; a MOIST step that has
gathered its target; and a HELD step whose steam is permitted again or still barred. -/
theorem witness_ReportWarnsAndCrossesLimits_outcomes :
    let moist : StepRec := { steam with ending := .moist, duration := none, target := some 300 }
    let reads (h : Half) (s : State) := after (.sensrep .cabinet 1 0 17 0 h 0) s
    let quiet (s t : State) : Prop := takesAtOnce .cabinet s = true ∧ (s.comp .c0).lastSeq ≠ some 17
      ∧ s.running .c0 = true ∧ (t.comp .c0).hd < (s.profile 5).hdLimit ∧ (t.comp .c0).md < (s.profile 5).mdLimit
      ∧ t.standing .cabinet = s.standing .cabinet
    (quiet (withC0 (ctx .active) [dryto]) (reads 450 (withC0 (ctx .active) [dryto]))
      ∧ quiet (withC0 (ctx .active) [dryto, dwell]) (reads 450 (withC0 (ctx .active) [dryto, dwell]))
      ∧ dryto.ending = .dryto ∧ dryto.target = some 450 ∧ min 1000 (450 : Half).toNat ≤ 450
      ∧ ¬ min 1000 (451 : Half).toNat ≤ 450)
      ∧ (let s := withC0 { ctx .active with md := 299, watch := 1, prevMoist := 1 } [moist];
        quiet s (reads 0 s) ∧ moist.ending = .moist ∧ moist.target = some 300
          ∧ 300 ≤ ((reads 0 s).comp .c0).md - (s.comp .c0).mdStart)
      ∧ (let s : State :=
          { withC0 (ctx .held) [steam] with bands := State.reset.bands.set 40 ⟨.openAll, .up, 1000, false, false⟩ };
        quiet s (reads 0 s) ∧ s.curStep .c0 = some steam ∧ steam.kind.supply = some .steam ∧ steam.ending = .gated
          ∧ (s.comp .c0).state = .held ∧ permits (reads 0 s) .c0 .steam = true ∧ s.config.bench = false
          ∧ steam.claim = some ⟨1, 60, 20⟩ ∧ s.entry .steam (.comp .c0) = none)
      ∧ (let s := withC0 (ctx .held) [steam];
        quiet s (reads 0 s) ∧ (s.comp .c0).state = .held ∧ permits (reads 0 s) .c0 .steam = false) := by decide

theorem witness_LimitCrossingsMoveTheTreatment :
    (let s := withC0 { ctx .active with hd := 359990, watch := 5, prevHeat := 2 } [steam, dwell, cool];
      takesAtOnce .cabinet s = true ∧ compOf 0 = some .c0 ∧ (s.comp .c0).lastSeq ≠ some 17 ∧ s.running .c0 = true
        ∧ s.curStep .c0 = some steam ∧ (s.profile 5).hdLimit = 360000
        ∧ (s.comp .c0).heatLimited = false ∧ 359990 + max (s.comp .c0).prevHeat 0 * 5 * 16 / 16 = 360000
        ∧ steam.kind ≠ .cool ∧ (s.plan .c0)[2]? = some cool ∧ cool.kind = .cool)
      ∧ (let s := (withC0 { ctx .active with md := 299995, watch := 5, prevMoist := 1 } [steam]).setProfile 5
          { silk with hdLimit := 0 };
        s.curStep .c0 = some steam ∧ (s.profile 5).hdLimit = 0 ∧ (s.profile 5).mdLimit = 300000
          ∧ (s.comp .c0).moistLimited = false ∧ 299995 + max (s.comp .c0).prevMoist 0 * 5 = 300000
          ∧ steam.kind = .steam ∧ s.running .c0 = true) := by decide

theorem witness_ReportWatchExpiryMakesStale :
    let s := withEntries .steam 60 [⟨.comp .c0, 2, false, 20, 60, 60, none, false⟩]
      (withC0 { ctx .active with watch := 9 } [steam])
    EntriesWhileRunning s ∧ s.running .c0 = true ∧ (s.comp .c0).report = .fresh
      ∧ (s.comp .c0).watch + 1 = s.config.reportWatch ∧ s.curSupply .c0 = some .steam
      ∧ (s.comp .c0).state = .active :=
  ⟨by intro c; cases c <;> exact ⟨by decide, fun sup => by cases sup <;> decide⟩, by decide⟩

theorem witness_SupplierReportIsTaken :
    takesAtOnce .boiler svc = true ∧ svc.mode ≠ .setup ∧ svc.standing .boiler ≠ .cut ∧ State.reset.mode = .setup
      ∧ takesAtOnce .boiler State.reset = true ∧ takesAtOnce .boiler (cutPort .boiler) = true
      ∧ (cutPort .boiler).mode = .service ∧ (cutPort .boiler).standing .boiler = .cut
      ∧ (50 : Half).toNat ≤ (cutPort .boiler).mainsInForce .boiler + (cutPort .boiler).mainsInForce .boiler / 20 + 50
      ∧ 32 ≤ ((cutPort .boiler).score .boiler).readmission + 1 := by decide

/-- BOILER reporting, with MAINS lists of several kinds. -/
def boilerUp (es : List Entry) : State :=
  withEntries .mains 3400 es (svc.modFeeder .boiler fun x => { x with silent := false, reported := 120 })

theorem standings_right_boilerUp : StandingsRight (boilerUp []) := by
  intro p
  cases p <;> (unfold Score.right; decide)

theorem witness_PwrreqChecksAndClaims :
    StandingsRight (boilerUp []) ∧ Served .boiler (boilerUp []) ∧ (boilerUp []).mode = .service ∧ ((boilerUp []).feeder .boiler).silent = false
      ∧ (9999 : Half).toNat = 9999 ∧ ((boilerUp []).supply .mains).entries = [] ∧ (boilerUp []).config.bench = false
      ∧ max (800 : Half).toNat (min (3400 : Half).toNat 9999) ≤ ((boilerUp []).supply .mains).effCap
      ∧ (after (.pwrreq .boiler 1 800 3400) (boilerUp [])).standing .boiler = (boilerUp []).standing .boiler
      ∧ (svc.feeder .boiler).silent = true ∧ State.reset.mode ≠ .service :=
  ⟨standings_right_boilerUp, by decide⟩

theorem witness_PwrrelGivesUpTheMainsEntry :
    Served .boiler (boilerUp [⟨.supplier .boiler, 4, false, 800, 2000, 2000, none, false⟩])
      ∧ (boilerUp [⟨.supplier .boiler, 4, false, 800, 2000, 2000, none, false⟩]).entry .mains (.supplier .boiler)
        = some ⟨.supplier .boiler, 4, false, 800, 2000, 2000, none, false⟩
      ∧ (boilerUp []).entry .mains (.supplier .boiler) = none := by decide

theorem witness_MainssetSetsTheAllowance :
    Served .panel svc ∧ min (min (3600 : Half).toNat 9999 - svc.config.auxReserve) 9999 = (svc.supply .mains).effCap := by
  decide

theorem amounts_right {e : Entry} (h : 1 ≤ e.min ∧ e.min ≤ e.want)
    (h' : e.inForce = 0 ∨ e.min ≤ e.inForce ∧ e.inForce ≤ e.want)
    (ho : e.offered = none) : e.amountsRight :=
  ⟨h.1, h.2, h', by simp [ho]⟩

/-- Two claims on the mains, a of code ca and b of code cb, in the order of their grants. -/
def mainsPair (ca cb a b : Nat) : Entry × Entry :=
  (⟨.supplier .boiler, ca, false, 800, 2000, a, none, false⟩, ⟨.supplier .dryer, cb, false, 400, 1000, b, none, false⟩)

/-- What every part about a pass over two entries asks of them and of the new capacity. -/
theorem witness_MainssetSetsTheAllowance_premises (ca cb a b : Nat) (w : Half)
    (ha : a = 0 ∨ a = 1500 ∨ a = 2000) (hb : b = 0 ∨ b = 1000) (hw : w = 3200 ∨ w = 2700 ∨ w = 2300 ∨ w = 1000) :
    let x := mainsPair ca cb a b
    let s := boilerUp [x.1, x.2]
    s.config.bench = false ∧ min (min w.toNat 9999 - s.config.auxReserve) 9999 ≠ (s.supply .mains).effCap
      ∧ x.1.claimant ≠ x.2.claimant ∧ x.1.amountsRight ∧ x.2.amountsRight ∧ (s.supply .mains).entries = [x.1, x.2]
      ∧ x.1.offered = none ∧ x.2.offered = none := by
  refine ⟨rfl, ?_, nofun, amounts_right ⟨?_, ?_⟩ ?_ rfl, amounts_right ⟨?_, ?_⟩ ?_ rfl, rfl, rfl, rfl⟩
  · have hc : (boilerUp [(mainsPair ca cb a b).1, (mainsPair ca cb a b).2]).config.auxReserve = 200
        ∧ ((boilerUp [(mainsPair ca cb a b).1, (mainsPair ca cb a b).2]).supply .mains).effCap = 3400 := ⟨rfl, rfl⟩
    rw [hc.1, hc.2]
    rcases hw with rfl | rfl | rfl | rfl <;> decide
  all_goals (simp only [mainsPair]; omega)

/-- The capacities and codes of each part: a shed above min and of a whole entry, the two raises, the two offers, the offer
of what is left, and the preemption and the two that preempt nothing. -/
theorem witness_MainssetSetsTheAllowance_parts :
    (let x := mainsPair 4 6 2000 1000;
      Served .panel (boilerUp [x.1, x.2]) ∧ x.1.code < x.2.code ∧ 0 < x.1.inForce ∧ 0 < x.2.inForce
        ∧ (x.1.min + x.2.min ≤ 2700 - 200 ∧ 2700 - 200 < x.1.inForce + x.2.inForce)
        ∧ x.1.min ≤ 1000 - 200 ∧ 1000 - 200 < x.1.min + x.2.min)
      ∧ (let x := mainsPair 6 6 2000 1000;
        ((boilerUp [x.1, x.2]).supply .mains).grants = [x.1.claimant, x.2.claimant])
      ∧ (let x := mainsPair 4 6 1500 1000;
        Served .panel (boilerUp [x.1, x.2]) ∧ 0 < x.1.inForce ∧ 0 < x.2.inForce
          ∧ x.1.inForce + x.2.inForce ≤ 3200 - 200)
      ∧ (let x := mainsPair 6 6 0 0;
        Served .panel (boilerUp [x.1, x.2]) ∧ x.1.code = x.2.code ∧ x.1.inForce = 0 ∧ x.2.inForce = 0)
      ∧ (let x := mainsPair 4 6 2000 0;
        Served .panel (boilerUp [x.1, x.2]) ∧ x.1.inForce = x.1.want ∧ x.2.inForce = 0
          ∧ (x.1.want ≤ 2700 - 200 ∧ 2700 - 200 < x.1.want + x.2.want) ∧ x.2.min ≤ 2700 - 200 - x.1.want
          ∧ 2300 - 200 - x.1.want < x.2.min ∧ x.1.code ≤ x.2.code)
      ∧ (let x := mainsPair 6 4 2000 0;
        Served .panel (boilerUp [x.1, x.2]) ∧ x.1.inForce = x.1.want ∧ x.2.inForce = 0
          ∧ (x.1.want ≤ 2300 - 200 ∧ 2300 - 200 < x.1.want + x.2.want) ∧ 2300 - 200 - x.1.want < x.2.min
          ∧ x.2.restrained = false ∧ x.2.code < x.1.code ∧ x.1.min + x.2.min ≤ 2300 - 200) := by decide

/-- The cascade of 4.7: MAINSSET(3,000) cuts the dryer to its min and the boiler by the rest, and MAINSSET(3,600) offers
both their raises. -/
theorem test_mains_cut_and_recovery :
    let amounts (s : State) := (s.supply .mains).entries.map fun e => (e.inForce, e.offered)
    amounts (after (.mainsset .panel 1 3000) (boilerUp
      [⟨.supplier .boiler, 4, false, 1200, 2400, 2400, none, false⟩,
        ⟨.supplier .dryer, 6, false, 800, 1600, 1000, none, false⟩])) = [(2000, none), (800, none)]
      ∧ amounts (after (.mainsset .panel 1 3600) (withEntries .mains 2800
        [⟨.supplier .boiler, 4, false, 1200, 2400, 2000, none, false⟩,
          ⟨.supplier .dryer, 6, false, 800, 1600, 800, none, false⟩] svc)) = [(2000, some 2400), (800, some 1000)] := by
  decide

theorem witness_ConfirmMakesItsChecksInOrder :
    Served .boiler (boilerUp []) ∧ supplyOf 3 = none ∧ supplyOf 2 = some .dryair ∧ supplyOf 1 = some .steam
      ∧ supplyOf 0 = some .mains ∧ (boilerUp []).config.bench = false ∧ (7 : Half) = ((boilerUp []).supply .mains).epoch
      ∧ (boilerUp []).entry .mains (.supplier .boiler) = none ∧ ((boilerUp []).supply .steam).entries = [] := by decide

theorem witness_ConfirmMovesOffersIntoForce :
    (Served .boiler waitingSteam ∧ waitingSteam.config.bench = false ∧ supplyOf 1 = some Supplier.boiler.supply
      ∧ (7 : Half) = (waitingSteam.supply .steam).epoch
      ∧ (∃ e ∈ (waitingSteam.supply .steam).entries, e.offered.isSome = true)
      ∧ (after (.confirm .boiler 1 1 7) waitingSteam).standing .boiler = waitingSteam.standing .boiler
      ∧ (waitingSteam.comp .c0).state = .waiting)
      ∧ (let e : Entry := ⟨.supplier .boiler, 4, false, 800, 2000, 800, some 2000, false⟩
        let e' : Entry := ⟨.supplier .dryer, 6, false, 400, 1000, 0, some 400, false⟩
        let s := boilerUp [e, e']
        Served .boiler s ∧ s.config.bench = false ∧ supplyOf 0 = some .mains ∧ (7 : Half) = (s.supply .mains).epoch
          ∧ s.entry .mains (.supplier .boiler) = some e ∧ e.offered = some 2000 ∧ e.inForce < 2000
          ∧ e' ∈ (s.supply .mains).entries ∧ (s.feeder .boiler).silent = false
          ∧ (after (.confirm .boiler 1 0 7) s).standing .boiler = s.standing .boiler) := by
  refine ⟨⟨by decide, by decide, by decide, by decide, ?_, by decide, by decide⟩, by decide⟩
  exact ⟨⟨.comp .c0, 2, false, 20, 60, 0, some 60, false⟩, by decide, by decide⟩

/-- The confirmed offer begins C0's use of steam in a band that notes it. -/
theorem witness_ConfirmMovesOffersIntoForce_marks :
    let e : Entry := ⟨.comp .c0, 2, false, 20, 60, 0, some 60, false⟩
    let s := notingSteam .waiting e
    Served .boiler s ∧ s.config.bench = false ∧ (7 : Half) = (s.supply .steam).epoch ∧ e ∈ (s.supply .steam).entries
      ∧ (after (.confirm .boiler 1 1 7) s).standing .boiler = s.standing .boiler
      ∧ (40 : Fin 128).val = (s.comp .c0).profile.val * 8 + (s.curBandIndex .c0).val ∧ (s.band 40).key = .steamNote
      ∧ (s.band 40).steamed = false ∧ (s.band 40).noted = false ∧ (s.comp .c0).noted = false := by decide

theorem witness_AllocrdRepliesWithTheView :
    takesAtOnce .cabinet waitingSteam = true ∧ supplyOf 1 = some .steam ∧ 3 ≤ (3 : Byte).toNat
      ∧ supplyOf 2 = some .dryair := by decide

theorem witness_StatusWatchExpirySilencesTheSupply :
    let s := waitingSteam.modFeeder .boiler fun x => { x with silent := false, watch := 9 }
    SuppliesSafe s ∧ s.mode ≠ .setup ∧ (s.feeder .boiler).silent = false
      ∧ (s.feeder .boiler).watch + 1 = s.config.supplierWatch :=
  ⟨supplies_safe_waiting, by decide⟩

theorem witness_ConfirmWindowExpiryOffersAgain :
    let s := waitingSteam.modSupply .steam fun r => { r with window := 1 }
    (s.supply .steam).offerOut = true ∧ (s.supply .steam).window ≤ 1 ∧ s.mode = .service
      ∧ (after (.confirmWindowExpiry .steam) s).scores.boiler.standing = s.scores.boiler.standing := by decide

/-- The lists whose pass is said: one waiting entry, one in force with a rise on offer, and two waiting entries, of equal
codes and in serve order against the list. -/
theorem witness_ConfirmWindowExpiryOffersAgain_lists :
    let at1 (es : List Entry) := (withEntries .steam 60 es waitingSteam).modSupply .steam fun r => { r with window := 1 }
    let a : Entry := ⟨.comp .c0, 2, false, 20, 60, 0, some 40, false⟩
    let rise : Entry := ⟨.comp .c0, 2, false, 20, 60, 30, some 60, false⟩
    let b (code : Nat) : Entry := ⟨.comp .c1, code, false, 20, 30, 0, some 20, false⟩
    (∀ es ∈ [[a], [rise], [a, b 2], [a, b 0]],
      ((at1 es).supply .steam).offerOut = true ∧ ((at1 es).supply .steam).window ≤ 1 ∧ (at1 es).mode = .service
        ∧ (at1 es).config.bench = false ∧ ((at1 es).supply .steam).entries = es
        ∧ ∀ p ∈ [Port.panel, .cabinet, .boiler, .dryer],
          (after (.confirmWindowExpiry .steam) (at1 es)).standing p = (at1 es).standing p)
      ∧ 0 < rise.inForce ∧ rise.inForce ≤ rise.want ∧ rise.inForce ≤ 60 ∧ a.claimant ≠ (b 2).claimant
      ∧ a.code ≤ (b 2).code ∧ (b 0).code < a.code := by decide

theorem witness_PermissionIsComposedFromItsConditions :
    Supply.steam ≠ .mains
      ∧ (40 : Fin 128).val = ((withC0 (ctx .active) [steam]).comp .c0).profile.val * 8
        + min 7 (Int.floor ((((withC0 (ctx .active) [steam]).comp .c0).lastT
          - ((withC0 (ctx .active) [steam]).profile 5).bandBase : ℚ)
          / (((withC0 (ctx .active) [steam]).profile 5).bandWidth : ℚ))).toNat := by
  refine ⟨by decide, ?_⟩
  have h1 : ((withC0 (ctx .active) [steam]).comp .c0).lastT = 0 := by decide
  have h2 : ((withC0 (ctx .active) [steam]).profile 5).bandBase = 300 := by decide
  have h3 : ((withC0 (ctx .active) [steam]).profile 5).bandWidth = 50 := by decide
  have h4 : ((withC0 (ctx .active) [steam]).comp .c0).profile = 5 := by decide
  rw [h1, h2, h3, h4]
  have h5 : ⌊(((0 : ℤ) : ℚ) - ((300 : ℤ) : ℚ)) / ((50 : ℕ) : ℚ)⌋ = -6 := by
    rw [Int.floor_eq_iff]
    norm_num
  rw [h5]
  decide

theorem witness_BrkclrClearsTheBreachRecord :
    Served .panel svc ∧ svc.breach.frozen = false ∧ Served .panel (svc.setBreach { Breach.clear with frozen := true })
      ∧ (svc.setBreach { Breach.clear with frozen := true }).breach.frozen = true := by decide

/-- A port's pointer set. -/
def pointing (p : Port) (x : Pointer) (s : State) : State := s.setPointer p x

theorem witness_TablePointerSelectsAndSteps :
    takesAtOnce .dryer svc = true ∧ tableOf 8 = some .breach ∧ [1, 4, 16, 128, 36, 3, 3, 9, 1][(8 : Byte).toNat]? = some 1
      ∧ (∀ n, [1, 4, 16, 128, 36, 3, 3, 9, 1][(9 : Byte).toNat]? = some n → n ≤ (0 : Byte).toNat)
      ∧ (svc.pointer .dryer).spoiled = true
      ∧ (let x := (pointing .dryer ⟨.profile, 15, 1, .read, false⟩ svc).pointer .dryer
        x.spoiled = false ∧ x.last = .read ∧ x.table.parts ≤ x.part + 1 ∧ x.table.rows ≤ x.row + 1)
      ∧ (let x := (pointing .dryer ⟨.profile, 14, 1, .read, false⟩ svc).pointer .dryer
        x.table.parts ≤ x.part + 1 ∧ x.row + 1 < x.table.rows)
      ∧ (let x := (pointing .dryer ⟨.profile, 15, 0, .read, false⟩ svc).pointer .dryer
        x.part + 1 < x.table.parts)
      ∧ ((pointing .dryer ⟨.profile, 15, 0, .never, false⟩ svc).pointer .dryer).last ≠ .read := by
  refine ⟨by decide, by decide, by decide, ?_, by decide⟩
  intro n h
  cases h

theorem witness_TblwrChecksAndWritesRows :
    (let s := pointing .panel ⟨.config, 0, 0, .never, false⟩ State.reset;
      Served .panel s ∧ (s.pointer .panel).spoiled = false ∧ (s.pointer .panel).last ≠ .write ∧ s.mode = .setup
        ∧ (s.pointer .panel).table = .config ∧ (configImage ConfigRec.powerOn).length = 13)
      ∧ (let s := pointing .panel ⟨.port, 1, 0, .never, false⟩ State.reset;
        Served .panel s ∧ (s.pointer .panel).table = .port ∧ (s.pointer .panel).row = 1 ∧ s.mode = .setup)
      ∧ (let s := pointing .panel ⟨.port, 3, 0, .never, false⟩ State.reset;
        (s.pointer .panel).table = .port ∧ (s.pointer .panel).row = 3)
      ∧ (let s := pointing .panel ⟨.band, 7, 0, .read, false⟩ svc;
        Served .panel s ∧ (s.pointer .panel).table = .band ∧ (s.pointer .panel).row < 8)
      ∧ (let s := pointing .panel ⟨.plan, 0, 0, .read, false⟩ svc;
        (s.pointer .panel).table ≠ .config ∧ (s.pointer .panel).table ≠ .port ∧ (s.pointer .panel).table ≠ .profile
          ∧ (s.pointer .panel).table ≠ .band)
      ∧ (svc.pointer .panel).spoiled = true ∧ svc.mode ≠ .setup := by decide

/-- Pointers after a write: to the next part, to the next row, past the end; a PROFILE part and a BAND row not in use; and
codes of the two that are not defined. -/
theorem witness_TblwrChecksAndWritesRows_steps :
    (let x := (pointing .panel ⟨.profile, 5, 0, .write, false⟩ svc).pointer .panel;
        x.last = .write ∧ x.part + 1 < x.table.parts)
      ∧ (let x := (pointing .panel ⟨.band, 126, 0, .write, false⟩ svc).pointer .panel;
        x.last = .write ∧ x.table.parts ≤ x.part + 1 ∧ x.row + 1 < x.table.rows)
      ∧ (let x := (pointing .panel ⟨.band, 127, 0, .write, false⟩ svc).pointer .panel;
        x.spoiled = false ∧ x.last = .write ∧ x.table.parts ≤ x.part + 1 ∧ x.table.rows ≤ x.row + 1)
      ∧ svc.profileInUse 5 = false ∧ State.reset.mode = .setup ∧ (5 : Fin 16).val = 5 ∧ (47 : Fin 128).val / 8 = 5
      ∧ BandKey.openAll.code = (5 : Byte).toNat ∧ Direction.down.code = (1 : Byte).toNat ∧ 6 ≤ (6 : Byte).toNat
      ∧ 2 ≤ (2 : Byte).toNat ∧ (7 : Byte).toNat < 8 ∧ 8 ≤ (8 : Byte).toNat := by decide

/-- PROFILE part 1 of a profile in use. -/
theorem witness_RowsInUseAreOnlyTightened_part_one :
    let s := pointing .panel ⟨.profile, 5, 1, .never, false⟩ (withC0 (ctx .active) [dwell])
    Served .panel s ∧ s.mode ≠ .setup ∧ s.profileInUse 5 = true ∧ (s.pointer .panel).spoiled = false
      ∧ (s.pointer .panel).last ≠ .write ∧ (s.pointer .panel).table = .profile
      ∧ (s.pointer .panel).row = (5 : Fin 16).val ∧ (s.pointer .panel).part = 1 ∧ (7 : Byte).toNat < 8 := by decide

/-- Rows of every table whose image is stated, the last of each. -/
theorem witness_TablePointerSelectsAndSteps_images :
    (∀ y ∈ ([⟨.port, 3, 0, .never, false⟩, ⟨.plan, 35, 0, .never, false⟩, ⟨.context, 2, 1, .never, false⟩,
        ⟨.supply, 2, 0, .never, false⟩, ⟨.entry, 8, 0, .never, false⟩, ⟨.breach, 0, 0, .never, false⟩] : List Pointer),
      y.row + 1 = y.table.rows ∧ y.part + 1 = y.table.parts)
      ∧ (waitingSteam.plan .c0)[1]? = some cool ∧ ((waitingSteam.supply .steam).entries[0]?).isSome = true
      ∧ (waitingSteam.supply .mains).entries[0]? = none := by decide

theorem witness_RowsInUseAreOnlyTightened :
    (let s := pointing .panel ⟨.profile, 5, 0, .never, false⟩ (withC0 (ctx .active) [dwell]);
      Served .panel s ∧ s.mode ≠ .setup ∧ (5 : Fin 16) ≠ 0 ∧ s.profileInUse 5 = true
        ∧ (s.pointer .panel).spoiled = false ∧ (s.pointer .panel).last ≠ .write ∧ (s.pointer .panel).table = .profile
        ∧ (s.pointer .panel).row = (5 : Fin 16).val ∧ (s.pointer .panel).part = 0
        ∧ (s.profile 5).hdLimit ≤ 16777215 ∧ (s.profile 5).mdLimit ≤ 16777215)
      ∧ (let s := pointing .panel ⟨.band, 47, 0, .never, false⟩ (withC0 (ctx .active) [dwell]);
        s.profileInUse 5 = true ∧ (s.pointer .panel).table = .band ∧ (s.pointer .panel).row = (47 : Fin 128).val
          ∧ (47 : Fin 128).val / 8 = (5 : Fin 16).val ∧ (5 : Byte).toNat ≤ 5 ∧ (1 : Byte).toNat ≤ 1
          ∧ s.config.bench = false) := by decide

theorem witness_NtfetchTakesTheHighestChannel :
    let s := svc.updateNotice .boiler fun x => x.posted 15 Detail.none
    takesAtOnce .boiler s = true ∧ (s.notice .boiler).pending.get 15 = some Detail.none
      ∧ (s.notice .boiler).mask.getLsbD 15 = false ∧ (∀ m : Fin 16, ¬ (15 : Fin 16) < m)
      ∧ takesAtOnce .boiler svc = true ∧ ∀ n, (svc.notice .boiler).pending.get n = none := by decide

theorem witness_NoticeRequestsSetTheirFields :
    let s := svc.updateNotice .boiler fun x => { x with inService := 0x8000 }
    takesAtOnce .boiler s = true ∧ (15 : Byte).toNat < 16 ∧ (s.notice .boiler).inService.getLsbD 15 = true
      ∧ (svc.notice .boiler).inService.getLsbD 15 = false ∧ 16 ≤ (16 : Byte).toNat := by decide

theorem witness_ModesetChangesTheMode :
    Served .panel waitingSteam ∧ EntriesWhileRunning waitingSteam ∧ SuppliesSafe waitingSteam
      ∧ modeOf 0 = some .setup ∧ modeOf 1 = some .watch ∧ modeOf 2 = some .service ∧ waitingSteam.mode = .service
      ∧ waitingSteam.running .c0 = true
      ∧ (let s := State.reset.setConfig { ConfigRec.powerOn with mainsCapacity := 200 };
        s.mode = .setup ∧ s.config.mainsCapacity ≤ s.config.auxReserve)
      ∧ State.reset.config.auxReserve < State.reset.config.mainsCapacity
      ∧ ({ waitingSteam with mode := .watch } : State).mode = .watch :=
  ⟨by decide, entries_right_waiting, supplies_safe_waiting, by decide⟩

/-- C0 PAUSED by WATCH alone, on a step of either sort. -/
theorem witness_ModesetChangesTheMode_resumes (st : StepRec) (h : st = dwell ∨ st = steam) :
    let s := { withC0 { ctx .paused with pause := ⟨false, false, true⟩ } [st] with mode := .watch }
    Served .panel s ∧ EntriesWhileRunning s ∧ SuppliesSafe s ∧ s.mode = .watch ∧ s.running .c0 = true
      ∧ (s.comp .c0).pause = ⟨false, false, true⟩ ∧ s.curStep .c0 = some st ∧ permits s .c0 .steam = false
      ∧ permits { s with bands := s.bands.set 40 ⟨.openAll, .up, 1000, false, false⟩ } .c0 .steam = true := by
  rcases h with rfl | rfl <;>
    exact ⟨by decide, by intro c; cases c <;> exact ⟨by decide, fun sup => by cases sup <;> decide⟩,
      by intro sup; cases sup <;> (unfold SupplyRec.safe; decide), by decide⟩

theorem witness_ReinitRestartsThePart : Served .panel waitingSteam := by decide

theorem witness_PortrstResetsThePort :
    takesAtOnce .cabinet waitingSteam = true ∧ takesAtOnce .boiler (boilerUp []) = true ∧ takesAtOnce .panel svc = true
      ∧ (after (.portrst .panel 1) svc).standing .panel = svc.standing .panel := by decide

theorem lines_right_svc : LinesRight svc := by
  intro p
  cases p <;> decide

theorem standings_right_svc : StandingsRight svc := by
  intro p
  cases p <;> (unfold Score.right; decide)

theorem witness_EveryCommandKeepsLinesAndStandings :
    exec (.ntmask .panel 1 0) svc = .next (after (.ntmask .panel 1 0) svc) ∧ LinesRight svc ∧ StandingsRight svc
      ∧ (let s := { svc with mode := .watch };
        exec (.ntmask .panel 1 0) s = .next (after (.ntmask .panel 1 0) s)
          ∧ (after (.ntmask .panel 1 0) s).mode = .watch) :=
  ⟨rfl, lines_right_svc, standings_right_svc, rfl, by decide⟩

/-- The CONFIRM of the waiting steam offer stands in front. -/
def confirming : State := { waitingSteam with pending := [.confirm .boiler 1 1 7] }

theorem queues_bounded_confirming : QueuesBounded confirming := by
  intro p
  cases p <;> decide

theorem witness_EveryStepKeepsTheSuppliesSafe :
    step confirming = .next (after (.confirm .boiler 1 1 7) waitingSteam) ∧ SuppliesSafe confirming
      ∧ QueuesBounded confirming :=
  ⟨rfl, supplies_safe_waiting, queues_bounded_confirming⟩

theorem witness_EveryStepKeepsOffersAndAmountsRight :
    SuppliesSafe confirming ∧ step confirming = .next (after (.confirm .boiler 1 1 7) waitingSteam)
      ∧ OffersFlagged confirming ∧ AmountsRight confirming := by
  refine ⟨supplies_safe_waiting, rfl, ?_, ?_, ?_⟩
  · intro sup
    cases sup <;> (unfold SupplyRec.flagged; decide)
  · intro sup e he
    cases sup
    · exact absurd he (by simp [confirming, waitingSteam, withEntries, withC0, svc, State.reset, State.supply,
        State.setSupply, PerSupply.get, PerSupply.set, SupplyRec.powerOn])
    · have : e = ⟨.comp .c0, 2, false, 20, 60, 0, some 60, false⟩ := by
        simpa [confirming, waitingSteam, withEntries, State.supply, State.setSupply, PerSupply.get, PerSupply.set]
          using he
      subst this
      refine ⟨by decide, by decide, Or.inl rfl, ?_⟩
      intro o ho
      cases ho
      decide
    · exact absurd he (by simp [confirming, waitingSteam, withEntries, withC0, svc, State.reset, State.supply,
        State.setSupply, PerSupply.get, PerSupply.set, SupplyRec.powerOn])
  · intro c st hst cl hcl
    cases c
    · have : st = steam ∨ st = cool := by
        simpa [confirming, waitingSteam, withEntries, withC0, State.plan, State.setSupply, PerComp.get] using hst
      rcases this with rfl | rfl <;> (cases hcl; decide)
    · exact absurd hst (by simp [confirming, waitingSteam, withEntries, withC0, State.plan, State.setSupply,
        PerComp.get])
    · exact absurd hst (by simp [confirming, waitingSteam, withEntries, withC0, State.plan, State.setSupply,
        PerComp.get])

theorem witness_EveryStepKeepsEntriesWithTheirSteps :
    EntriesWhileRunning confirming ∧ StepsInPlan confirming
      ∧ step confirming = .next (after (.confirm .boiler 1 1 7) waitingSteam) :=
  ⟨entries_right_waiting, by intro c; cases c <;> decide, rfl⟩

theorem witness_DosesRiseOrAreZeroed :
    exec (.sensrep .cabinet 1 0 17 0 0 0) waitingSteam = .next (after (.sensrep .cabinet 1 0 17 0 0 0) waitingSteam)
      ∧ DosesBounded waitingSteam :=
  ⟨rfl, by intro c; cases c <;> decide⟩

theorem witness_FrozenBreachRecordIsKept :
    let s := svc.setBreach { Breach.clear with frozen := true }
    (Instr.ntmask .panel 1 0).wellFormed = true
      ∧ exec (.ntmask .panel 1 0) s = .next (after (.ntmask .panel 1 0) s) ∧ s.breach.frozen = true
      ∧ (Instr.ntmask .panel 1 0) ≠ .powerOn
      ∧ (∀ tag, (Instr.ntmask .panel 1 0) ≠ .brkclr .panel tag ∧ (Instr.ntmask .panel 1 0) ≠ .reinit .panel tag)
      ∧ (Instr.ntmask .panel 1 0) ≠ .requestTake .panel :=
  ⟨by decide, rfl, by decide, by decide, by intro tag; exact ⟨nofun, nofun⟩, by decide⟩

end Sys2Proof.Tests
end

section
/-! PROOFS. How a served request is answered (R166, R167), and what a posting leaves (R151): the layer under the proofs
about single requests. -/

namespace Sys2Proof.Machine

/-! ### A request that its port takes at once -/

section startInterval
variable (p : Port) (s : State)

@[simp] theorem startInterval_mode : (startInterval p s).mode = s.mode := rfl
@[simp] theorem startInterval_config : (startInterval p s).config = s.config := rfl
@[simp] theorem startInterval_comp (c : Comp) : (startInterval p s).comp c = s.comp c := rfl
@[simp] theorem startInterval_plan (c : Comp) : (startInterval p s).plan c = s.plan c := rfl
@[simp] theorem startInterval_profile (i : Fin 16) : (startInterval p s).profile i = s.profile i := rfl
@[simp] theorem startInterval_running (c : Comp) : (startInterval p s).running c = s.running c := rfl
@[simp] theorem startInterval_standing (q : Port) : (startInterval p s).standing q = s.standing q := rfl

end startInterval

/-- R166: with the role and standing checks passed, the owning block's answer is scored and queued. -/
theorem submit_of_serve {p : Port} {tag : Byte} {r : Request} {s : State} {a : Answer} (h : Served p s)
    (hr : roleAllows p r = true) (ha : serve p r (startInterval p s) = a) :
    submit p tag r s = queueReply p (replyBytes r.kind tag a.status a.body)
      (if scoreOf r a = ScoreEvent.none then a.state else scoreEvent p (scoreOf r a) a.state) := by
  subst ha
  simp [submit, handle, checkAndServe, h.1, h.2, hr]

/-- R167: an owning block's refusal is replied to and changes nothing. -/
theorem submit_refused {p : Port} {kind tag code : Byte} {r : Request} {s : State} {st : Status} (h : Served p s)
    (hr : roleAllows p r = true) (ha : serve p r (startInterval p s) = answer st (startInterval p s))
    (hst : (st.accepted || st.isFault) = false) (hkind : r.kind ||| 0x80 = kind) (hcode : st.code = code) :
    submit p tag r s = refusedWith p kind tag code s := by
  obtain ⟨hacc, hfault⟩ := Bool.or_eq_false_iff.1 hst
  have hscore : scoreOf r (answer st (startInterval p s)) = ScoreEvent.none := by
    simp [scoreOf, answer, ScoreEvent.none, hacc, hfault]
  rw [submit_of_serve h hr ha, if_pos hscore, ← hkind, ← hcode]
  rfl

/-- R140, R167: an owning block's plain acceptance is scored and replied to. -/
theorem submit_accepted {p : Port} {kind tag : Byte} {r : Request} {s t : State} (h : Served p s)
    (hr : roleAllows p r = true) (ha : serve p r (startInterval p s) = answer .ok t) (hi : isReinit r = false)
    (hkind : r.kind ||| 0x80 = kind) :
    submit p tag r s = acceptedWith p kind tag acceptedEvent t := by
  have hscore : scoreOf r (answer .ok t) = acceptedEvent := by simp [scoreOf, answer, acceptedEvent, ScoreEvent.none,
    Status.accepted, Status.isFault, hi]
  rw [submit_of_serve h hr ha, hscore, if_neg (by decide), ← hkind]
  rfl

/-! ### Postings -/

@[simp] theorem compsUnion_get (x y : PerComp Bool) (c : Comp) : (compsUnion x y).get c = (x.get c || y.get c) := by
  cases c <;> rfl

@[simp] theorem suppliesUnion_get (x y : PerSupply Bool) (u : Supply) :
    (suppliesUnion x y).get u = (x.get u || y.get u) := by
  cases u <;> rfl

/-- t is s but for the notices, and every notice that s shows t shows too: what posting does (R151). -/
structure Noticed (s t : State) : Prop where
  eq : t = { s with notices := t.notices }
  shows : ∀ {p ch x u}, Shows s p ch x u → Shows t p ch x u

namespace Noticed

theorem refl (s : State) : Noticed s s := ⟨rfl, id⟩

theorem trans {s t u : State} (h : Noticed s t) (k : Noticed t u) : Noticed s u where
  eq := by
    obtain ⟨h, -⟩ := h
    obtain ⟨k, -⟩ := k
    generalize t.notices = n at h
    subst h
    exact k
  shows := k.shows ∘ h.shows

theorem comp {s t : State} (h : Noticed s t) (c : Comp) : t.comp c = s.comp c :=
  (congrArg (fun w : State => w.comp c) h.eq :)

end Noticed

theorem Shows.suppliesNone {s : State} {p : Port} {ch : Channel} {x : PerComp Bool} {u : PerSupply Bool}
    (h : Shows s p ch x u) : Shows s p ch x suppliesNone := by
  obtain ⟨d, hd, hx, -⟩ := h
  exact ⟨d, hd, hx, fun u hu => by cases u <;> cases hu⟩

/-- R151: a posting reaches a channel with its own detail, merged into what was pending there. -/
theorem Notice.posted_pending (x : Notice) (n m : Fin 16) (d : Detail) :
    (x.posted n d).settle.pending.get m =
      if m = n then some ((x.pending.get n).elim d fun old => old.merge d) else x.pending.get m := by
  refine (vector_get_set _ _ _ _).trans ?_
  cases x.pending.get n <;> rfl

theorem postTo_noticed (p : Port) (ch : Channel) (d : Detail) (s : State) : Noticed s (postTo p ch d s) where
  eq := rfl
  shows {q c x u} h := by
    obtain ⟨old, hold, hx, hu⟩ := h
    unfold Shows
    by_cases hq : q = p
    · subst hq
      by_cases hc : c.num = ch.num
      · rw [hc] at hold
        refine ⟨old.merge d, ?_, ?_, ?_⟩
        · simp [postTo, State.updateNotice, Notice.posted_pending, hc, hold]
        · intro k hk
          simp [Detail.merge, hx k hk]
        · intro k hk
          simp [Detail.merge, hu k hk]
      · exact ⟨old, by simp [postTo, State.updateNotice, Notice.posted_pending, hc, hold], hx, hu⟩
    · exact ⟨old, by rw [postTo, State.updateNotice, State.setNotice_notice_ne _ _ _ hq]; exact hold, hx, hu⟩

theorem postTo_shows (p : Port) (ch : Channel) (d : Detail) (s : State) :
    Shows (postTo p ch d s) p ch d.comps d.supplies := by
  unfold Shows
  simp only [postTo, State.updateNotice, State.setNotice_notice, Notice.posted_pending, if_pos]
  cases (s.notice p).pending.get ch.num with
  | none => exact ⟨d, rfl, fun _ => id, fun _ => id⟩
  | some old => refine ⟨old.merge d, rfl, ?_, ?_⟩ <;> intro k hk <;> simp [Detail.merge, hk]

theorem post_eq (ch : Channel) (d : Detail) (s : State) :
    post ch d s = postTo .cabinet ch d (postTo .dryer ch d (postTo .boiler ch d (postTo .panel ch d s))) := rfl

theorem post_noticed (ch : Channel) (d : Detail) (s : State) : Noticed s (post ch d s) := by
  rw [post_eq]
  exact (((postTo_noticed _ ch d s).trans (postTo_noticed _ ch d _)).trans (postTo_noticed _ ch d _)).trans
    (postTo_noticed _ ch d _)

/-- R150: a posting shows on every port, since what later ports are told leaves the earlier ones showing it. -/
theorem post_shows (p : Port) (ch : Channel) (d : Detail) (s : State) :
    Shows (post ch d s) p ch d.comps d.supplies := by
  rw [post_eq]
  have told (q : Port) (t : State) := postTo_shows q ch d t
  have keep (q : Port) (t : State) (h : Shows t p ch d.comps d.supplies) :
      Shows (postTo q ch d t) p ch d.comps d.supplies := (postTo_noticed q ch d t).shows h
  cases p
  · exact keep _ _ (keep _ _ (keep _ _ (told .panel s)))
  · exact keep _ _ (keep _ _ (told .boiler _))
  · exact keep _ _ (told .dryer _)
  · exact told .cabinet _

/-! ### The close of a take of the PANEL -/

theorem State.setScore_self (s : State) (p : Port) : s.setScore p (s.score p) = s := by cases p <;> rfl

/-- R143: an event of the PANEL writes its scores, and a change of its standing only posts STANDING. -/
theorem scoreEvent_panel (e : ScoreEvent) (s : State) :
    ∃ x, Noticed (s.setScore .panel x) (scoreEvent .panel e s) := by
  unfold scoreEvent
  split
  · exact ⟨s.score .panel, by rw [State.setScore_self]; exact .refl s⟩
  · refine ⟨(s.score .panel).after .panel e, ?_⟩
    extract_lets old x s1
    split
    · exact .refl s1
    · exact postTo_noticed .panel .standing _ s1

/-- What the take of an accepted request of the PANEL adds to its owning block's work v, postings aside: the PANEL's
scores and its reply. -/
def panelTake (reply : List Byte) (x : Score) (v : State) : State := queueReply .panel reply (v.setScore .panel x)

theorem acceptedWith_panel (kind tag : Byte) (e : ScoreEvent) (u : State) :
    ∃ x, Noticed (panelTake [0x04, kind, tag, 0x00] x u) (acceptedWith .panel kind tag e u) := by
  obtain ⟨x, hx⟩ := scoreEvent_panel e u
  refine ⟨x, ?_, hx.shows⟩
  rw [acceptedWith, hx.eq]
  rfl

theorem Noticed.panelTake {u v : State} (h : Noticed v u) (reply : List Byte) (x : Score) :
    Noticed (panelTake reply x v) (panelTake reply x u) where
  eq := by
    rw [h.eq]
    rfl
  shows := h.shows

section panelTake
variable {reply : List Byte} {x : Score} {v t : State} (ht : Noticed (panelTake reply x v) t)
include ht

theorem comp_of_panelTake (c : Comp) : t.comp c = v.comp c := (congrArg (fun w : State => w.comp c) ht.eq :)
theorem plan_of_panelTake (c : Comp) : t.plan c = v.plan c := (congrArg (fun w : State => w.plan c) ht.eq :)
theorem supplies_of_panelTake : t.supplies = v.supplies := (congrArg State.supplies ht.eq :)
theorem breach_of_panelTake : t.breach = v.breach := (congrArg State.breach ht.eq :)

theorem shows_of_panelTake {p : Port} {ch : Channel} {y : PerComp Bool} {u : PerSupply Bool} (h : Shows v p ch y u) :
    Shows t p ch y u :=
  ht.shows h

end panelTake

/-- R163, R167: the take answers the PANEL and touches no other port's queues or scores. -/
theorem answered_of_panelTake {reply : List Byte} {x : Score} {s v t : State}
    (ht : Noticed (panelTake reply x v) t) (hc : v.cpis = (startInterval .panel s).cpis)
    (hs : v.scores = s.scores) : Answered .panel reply s t where
  cpis := by
    have hq : t.cpis = v.cpis.set .panel
        { v.cpis.get .panel with outbound := (v.cpis.get .panel).outbound ++ [reply] } :=
      congrArg State.cpis ht.eq
    rw [hq, hc]
    rfl
  scores q hq := by
    have hv : t.scores = v.scores.set .panel x := congrArg State.scores ht.eq
    rw [State.score, hv, PerPort.get_set_ne _ _ hq, hs]
    rfl

theorem Kept.of_startInterval {p : Port} {s t : State} (h : Kept (startInterval p s) t) : Kept s t :=
  ⟨h.mode, h.config, h.profiles, h.feeders, h.pointers, h.pending, h.bands⟩

theorem Kept.panelTake {reply : List Byte} {x : Score} {s v t : State} (h : Kept s v)
    (ht : Noticed (panelTake reply x v) t) : Kept s t := by
  rw [ht.eq]
  exact ⟨h.mode, h.config, h.profiles, h.feeders, h.pointers, h.pending, h.bands⟩

theorem OthersKept.panelTake {k : Comp} {reply : List Byte} {x : Score} {s v t : State} (h : OthersKept k s v)
    (ht : Noticed (panelTake reply x v) t) : OthersKept k s t := by
  rw [ht.eq]
  exact h

end Sys2Proof.Machine
end

section
/-! PROOFS. Plans: PLNCLR (R5). -/

namespace Sys2Proof.Machine

@[simp] theorem withComp_of_none {c : Byte} (h : compOf c = none) (s : State) (f : Comp → Answer) :
    withComp c s f = answer .range s := by
  simp [withComp, h]

@[simp] theorem withComp_of_some {c : Byte} {k : Comp} (h : compOf c = some k) (s : State) (f : Comp → Answer) :
    withComp c s f = f k := by
  simp [withComp, h]

/-- Settles O16: the checks of R5 in order, each answer carried through the take. -/
theorem plnclrEmptiesAPlan : Obligations.PlnclrEmptiesAPlan := by
  unfold Obligations.PlnclrEmptiesAPlan
  intro s tag c h
  refine congrArg Host.Outcome.next ?_
  have hkind : (Request.plnclr c).kind ||| 0x80 = 0x81 := by simp [Request.kind]
  cases hc : compOf c with
  | none => exact submit_refused (r := .plnclr c) h rfl (withComp_of_none hc _ _) rfl hkind rfl
  | some k =>
    have hserve := withComp_of_some hc (startInterval .panel s)
    dsimp only
    split
    case isTrue hrun => exact submit_refused (r := .plnclr c) h rfl ((hserve _).trans (if_pos hrun)) rfl hkind rfl
    case isFalse hrun => exact submit_accepted (r := .plnclr c) h rfl ((hserve _).trans (if_neg hrun)) rfl hkind

end Sys2Proof.Machine
end

section
/-! PROOFS. Treatment start: TSTART (R8, R9), and the running state a step takes on entry (R10, R11, R21). -/

namespace Sys2Proof.Machine

theorem State.setComp_self (s : State) (c : Comp) : s.setComp c (s.comp c) = s := by cases c <;> rfl

@[simp] theorem State.setComp_setComp (s : State) (c : Comp) (x y : Context) :
    (s.setComp c x).setComp c y = s.setComp c y := by
  cases c <;> rfl

/-! ### Running states -/

theorem withdraw_of_entry_none {sup : Supply} {cl : Claimant} {s : State} (h : s.entry sup cl = none) :
    withdraw sup cl s = s := by
  simp [withdraw, h]

theorem enterHeld_of_entry_none {c : Comp} {sup : Supply} {s : State} (causes : HoldSet)
    (h : s.entry sup (.comp c) = none) :
    enterHeld c sup causes s
      = post .held (Detail.ofSupply (compsOne c) sup) (s.setComp c ((s.comp c).heldWith causes)) := by
  rw [enterHeld, withdraw_of_entry_none h]
  rfl

/-- R130: no breach is judged for a supply that was not permitted before. -/
theorem breachTest_of_not_permitted {c : Comp} {sup : Supply} {s : State} (h : (s.comp c).permitted.has sup = false) :
    breachTest c sup s = s := by
  simp [breachTest, judgesBreach, h]

theorem takeRunningState_of_paused {c : Comp} {s : State} (h : (s.comp c).pause.isEmpty = false) :
    takeRunningState c s = s.setComp c (s.comp c).enteredPaused := by
  simp [takeRunningState, h]

theorem takeRunningState_of_dwell {c : Comp} {s : State} {st : StepRec} (h : (s.comp c).pause.isEmpty = true)
    (hst : s.curStep c = some st) (hk : st.kind.supply = none) :
    takeRunningState c s
      = (storePermitted c s).modComp c fun x => { x with state := .active, restart := none } := by
  simp [takeRunningState, h, hst, hk]

theorem takeRunningState_of_not_permitted {c : Comp} {s : State} {st : StepRec} {sup : Supply}
    (h : (s.comp c).pause.isEmpty = true) (hst : s.curStep c = some st) (hk : st.kind.supply = some sup)
    (hp : permits s c sup = false) :
    takeRunningState c s = enterHeld c sup (removalCauses s c sup) (storePermitted c (breachTest c sup s)) := by
  simp [takeRunningState, h, hst, hk, hp]

theorem enterFrom_cons_of_not_skips {c : Comp} {st : StepRec} {i : Nat} {s : State} (rest : List StepRec)
    (h : ((s.comp c).entered i).skips st.kind = false) :
    enterFrom c (st :: rest) i s = takeRunningState c (s.setComp c ((s.comp c).entered i)) := by
  simp [enterFrom, h]

/-- R125: while the first report of a treatment is awaited, STALE removes both supplies. -/
theorem removalCauses_stale_of_awaiting {c : Comp} {s : State} (sup : Supply) (h : (s.comp c).report = .awaiting) :
    (removalCauses s c sup).stale = true := by
  simp [removalCauses, h]

theorem permits_of_awaiting {c : Comp} {s : State} (sup : Supply) (h : (s.comp c).report = .awaiting) :
    permits s c sup = false := by
  simp [permits, HoldSet.isEmpty, removalCauses_stale_of_awaiting sup h]

/-- R127: the evaluation on entering step 0 stores the empty permitted set, which TSTART has left. -/
theorem storePermitted_of_awaiting {c : Comp} {s : State} (h : (s.comp c).report = .awaiting)
    (hp : (s.comp c).permitted = .none) : storePermitted c s = s := by
  have hnow : permittedNow s c = (s.comp c).permitted := by
    simp [permittedNow, permits_of_awaiting _ h, hp, PermSet.none]
  rw [storePermitted, hnow]
  exact s.setComp_self c

/-! ### Step 0 of a prepared context -/

/-- R9: no step is skipped right after TSTART, since both limit flags are clear. -/
theorem Context.started_skips (x : Context) (i : Nat) (k : StepKind) : (x.started.entered i).skips k = false := by
  simp [Context.skips, Context.entered, Context.started]

theorem Context.started_pause_isEmpty (x : Context) (i : Nat) :
    (x.started.entered i).pause.isEmpty = !x.doorOpen := by
  simp [Context.entered, Context.started, PauseSet.isEmpty, PauseSet.none]

section started
variable {k : Comp} {s : State} {st : StepRec} {rest : List StepRec} {x : Context}
  (hplan : s.plan k = st :: rest) (hx : s.comp k = x.started)
include hplan

theorem curStep_started : (s.setComp k (x.started.entered 0)).curStep k = some st := by
  rw [State.curStep, State.setComp_comp]
  exact congrArg (·[0]?) hplan

include hx

theorem enterStep_started : enterStep k 0 s = takeRunningState k (s.setComp k (x.started.entered 0)) := by
  rw [enterStep, hplan, List.drop_zero, enterFrom_cons_of_not_skips _ (by rw [hx]; exact x.started_skips _ _), hx]

theorem enterStep_started_of_door_open (hdoor : x.doorOpen = true) :
    enterStep k 0 s
      = s.setComp k { x.started.entered 0 with state := .paused, restart := some ⟨0, 0, 0, .door⟩ } := by
  rw [enterStep_started hplan hx,
    takeRunningState_of_paused (by rw [State.setComp_comp, Context.started_pause_isEmpty, hdoor]; rfl),
    State.setComp_setComp, State.setComp_comp]
  simp [Context.enteredPaused, Context.entered, Context.started, PauseSet.first, PauseSet.none, hdoor]

theorem enterStep_started_of_dwell (hdoor : x.doorOpen = false) (hk : st.kind.supply = none) :
    enterStep k 0 s = s.setComp k { x.started.entered 0 with state := .active } := by
  rw [enterStep_started hplan hx,
    takeRunningState_of_dwell (st := st) (by rw [State.setComp_comp, Context.started_pause_isEmpty, hdoor]; rfl)
      (curStep_started hplan) hk,
    storePermitted_of_awaiting (by rw [State.setComp_comp]; rfl) (by rw [State.setComp_comp]; rfl),
    State.modComp_eq, State.setComp_setComp, State.setComp_comp]
  rfl

theorem enterStep_started_of_claim {sup : Supply} (hdoor : x.doorOpen = false) (hk : st.kind.supply = some sup)
    (hent : s.entry sup (.comp k) = none) :
    ∃ causes : HoldSet, causes.stale = true ∧ enterStep k 0 s
      = post .held (Detail.ofSupply (compsOne k) sup)
          (s.setComp k ((x.started.entered 0).heldWith causes)) := by
  have hs := State.setComp_comp s k (x.started.entered 0)
  have hawait : ((s.setComp k (x.started.entered 0)).comp k).report = .awaiting := by rw [hs]; rfl
  refine ⟨_, removalCauses_stale_of_awaiting sup hawait, ?_⟩
  rw [enterStep_started hplan hx,
    takeRunningState_of_not_permitted (st := st) (by rw [hs, Context.started_pause_isEmpty, hdoor]; rfl)
      (curStep_started hplan) hk (permits_of_awaiting sup hawait),
    breachTest_of_not_permitted (by rw [hs]; cases sup <;> rfl),
    storePermitted_of_awaiting hawait (by rw [hs]; rfl), enterHeld_of_entry_none (s := s.setComp k _) _ hent,
    State.setComp_setComp, hs]

/-- R10, R11, R21: step 0 after TSTART in its three forms, the door and the step's kind deciding; y is the context it
leaves, and beyond that there is only a HELD notice. -/
theorem enterStep_started_cases (hent : ∀ sup, s.entry sup (.comp k) = none) :
    ∃ y, Noticed (s.setComp k y) (enterStep k 0 s)
      ∧ y = { x.started.entered 0 with state := y.state, restart := y.restart, hold := y.hold }
      ∧ (if x.doorOpen = true then y.state = .paused ∧ y.restart = some ⟨0, 0, 0, .door⟩ ∧ y.hold = .none
        else if st.kind = .dwell then y.state = .active ∧ y.restart = none ∧ y.hold = .none
        else y.state = .held ∧ y.restart = some ⟨0, 0, 0, .hold⟩ ∧ y.hold.stale = true
          ∧ ∀ p, Shows (enterStep k 0 s) p .held (compsOne k) suppliesNone) := by
  split
  case isTrue hdoor =>
    rw [enterStep_started_of_door_open hplan hx hdoor]
    exact ⟨_, .refl _, rfl, rfl, rfl, rfl⟩
  case isFalse hdoor =>
    rw [Bool.not_eq_true] at hdoor
    split
    case isTrue hk =>
      rw [enterStep_started_of_dwell hplan hx hdoor (by rw [hk]; rfl)]
      exact ⟨_, .refl _, rfl, rfl, rfl, rfl⟩
    case isFalse hk =>
      obtain ⟨sup, hsup⟩ : ∃ sup, st.kind.supply = some sup := by
        cases hkind : st.kind <;> simp_all [StepKind.supply]
      obtain ⟨causes, hstale, heq⟩ := enterStep_started_of_claim hplan hx hdoor hsup (hent sup)
      rw [heq]
      exact ⟨_, post_noticed _ _ _, rfl, rfl, rfl, hstale, fun p => (post_shows p _ _ _).suppliesNone⟩

end started

/-! ### TSTART -/

theorem Caps.allows_eq_false_iff (caps : Caps) (k : StepKind) :
    caps.allows k = false ↔ (k = .steam ∧ caps.steam = false) ∨ (k = .dry ∧ caps.warm = false) := by
  cases k <;> simp [Caps.allows]

/-- R7: a compartment that is not running has no entry. -/
theorem EntriesWhileRunning.entry_none {s : State} (h : EntriesWhileRunning s) {k : Comp}
    (hrun : ¬ s.running k = true) (sup : Supply) : s.entry sup (.comp k) = none := by
  by_contra hne
  obtain ⟨hw | ha, -⟩ := (h k).2 sup (Option.isSome_iff_ne_none.2 hne)
  · exact hrun (by simp [State.running, hw, TreatState.isRunning])
  · exact hrun (by simp [State.running, ha, TreatState.isRunning])

/-- R9: what an accepted TSTART prepares before it enters step 0. -/
def prepared (k : Comp) (s : State) : State :=
  (s.setPlan k ((s.plan k).map fun st => { st with lastOutcome := .notYet })).setComp k (s.comp k).started

theorem prepared_plan (k : Comp) (s : State) :
    (prepared k s).plan k = (s.plan k).map fun st => { st with lastOutcome := .notYet } :=
  State.setPlan_plan s k _

theorem prepared_comp (k : Comp) (s : State) : (prepared k s).comp k = (s.comp k).started := State.setComp_comp _ _ _

/-- Settles O20: the checks of R8 in order; an accepted request prepares the context and enters step 0 by
enterStep_started_cases. -/
theorem tstartChecksAndEntersStepZero : Obligations.TstartChecksAndEntersStepZero := by
  unfold Obligations.TstartChecksAndEntersStepZero
  intro s tag c h hent
  have hkind : (Request.tstart c).kind ||| 0x80 = 0x84 := by simp [Request.kind]
  have refused (st : Status) {code : Byte}
      (ha : doTstart c (startInterval .panel s) = answer st (startInterval .panel s))
      (hst : (st.accepted || st.isFault) = false) (hcode : st.code = code) :
      exec (.tstart .panel tag c) s = .next (refusedWith .panel 0x84 tag code s) :=
    congrArg _ (submit_refused (r := .tstart c) h rfl ha hst hkind hcode)
  cases hc : compOf c with
  | none => exact refused .range (withComp_of_none hc _ _) rfl rfl
  | some k =>
    dsimp only
    by_cases hmode : s.mode ≠ .service
    · rw [if_pos hmode]
      exact refused .mode (by simp [doTstart, hc, hmode]) rfl rfl
    rw [if_neg hmode]
    by_cases hrun : s.running k = true
    · rw [if_pos hrun]
      exact refused .busy (by simp [doTstart, hc, hmode, hrun]) rfl rfl
    rw [if_neg hrun]
    by_cases hprof : (s.comp k).profile = 0
    · rw [if_pos hprof]
      exact refused .unbound (by simp [doTstart, hc, hmode, hrun, hprof]) rfl rfl
    rw [if_neg hprof]
    by_cases hpres : (s.profile (s.comp k).profile).present = false
    · rw [if_pos hpres]
      exact refused .absent (by simp [doTstart, hc, hmode, hrun, hprof, hpres]) rfl rfl
    rw [if_neg hpres]
    cases hplan : s.plan k with
    | nil => exact refused .emptyPlan (by simp [doTstart, hc, hmode, hrun, hprof, hpres, hplan]) rfl rfl
    | cons st rest =>
      have hne : s.plan k ≠ [] := by simp [hplan]
      dsimp only
      rw [← hplan]
      split
      case isTrue hcaps =>
        exact refused .unsuited
          (by simp [doTstart, hc, hmode, hrun, hprof, hpres, hne, Caps.allows_eq_false_iff, hcaps]) rfl rfl
      case isFalse hcaps =>
        have haccept : doTstart c (startInterval .panel s)
            = answer .ok (enterStep k 0 (prepared k (startInterval .panel s))) := by
          simp [doTstart, hc, hmode, hrun, hprof, hpres, hne, Caps.allows_eq_false_iff, hcaps, prepared]
        have hprepared := (prepared_plan k (startInterval .panel s)).trans (congrArg (List.map _) hplan)
        obtain ⟨y, hu, hy, hform⟩ := enterStep_started_cases hprepared (prepared_comp k _) (hent.entry_none hrun)
        obtain ⟨x, ht⟩ :=
          acceptedWith_panel 0x84 tag acceptedEvent (enterStep k 0 (prepared k (startInterval .panel s)))
        have htake := (hu.panelTake [0x04, 0x84, tag, 0x00] x).trans ht
        have hkept : Kept s ((prepared k (startInterval .panel s)).setComp k y) :=
          ⟨rfl, rfl, rfl, rfl, rfl, rfl, fun _ => rfl⟩
        have hcomp := (comp_of_panelTake htake k).trans (State.setComp_comp _ _ _)
        refine ⟨_, congrArg Host.Outcome.next (submit_accepted (r := .tstart c) h rfl haccept rfl hkind),
          answered_of_panelTake htake rfl rfl, hkept.panelTake htake, fun d hd => ⟨?_, ?_⟩,
          (supplies_of_panelTake htake :), (breach_of_panelTake htake :), ?_, ?_, ?_⟩
        · rw [comp_of_panelTake htake, State.setComp_comp_ne _ _ _ hd, prepared, State.setComp_comp_ne _ _ _ hd]
          rfl
        · exact (plan_of_panelTake htake d).trans (State.setPlan_plan_ne _ _ _ hd)
        · exact (plan_of_panelTake htake k).trans (State.setPlan_plan _ _ _)
        · rw [hcomp]
          rw [startInterval_comp] at hform
          split_ifs at hform ⊢
          · exact hform
          · exact hform
          · obtain ⟨hstate, hrestart, hstale, hshows⟩ := hform
            exact ⟨hstate, hrestart, hstale, fun p => shows_of_panelTake ht (hshows p)⟩
        · rw [hcomp]
          exact hy

end Sys2Proof.Machine
end

section
/-! PROOFS. What an allocation pass and a withdrawal leave (R39, R75, R85, R105): the supply's record, and, by signals
alone, the state and the noted-use marker of a compartment and the flags of a band. -/

namespace Sys2Proof.Machine

/-! ### Signals -/

/-- t is s after signals of an allocation: contexts have moved in state and noted-use marker alone, bands in their flags
alone, and notices have been posted. -/
structure Signalled (s t : State) : Prop where
  eq : t = { s with comps := t.comps, bands := t.bands, notices := t.notices }
  comp : ∀ c, t.comp c = { s.comp c with state := (t.comp c).state, noted := (t.comp c).noted }
  band : ∀ i, t.band i = { s.band i with noted := (t.band i).noted, steamed := (t.band i).steamed }
  shows : ∀ {p ch x u}, Shows s p ch x u → Shows t p ch x u

theorem Noticed.signalled {s t : State} (h : Noticed s t) : Signalled s t := by
  refine ⟨?_, ?_, ?_, h.shows⟩ <;> rw [h.eq] <;> intros <;> rfl

namespace Signalled

theorem refl (s : State) : Signalled s s := (Noticed.refl s).signalled

theorem trans {s t u : State} (h : Signalled s t) (k : Signalled t u) : Signalled s u where
  eq := k.eq.trans (by rw [h.eq])
  comp c := (k.comp c).trans (by rw [h.comp c])
  band i := (k.band i).trans (by rw [h.band i])
  shows := k.shows ∘ h.shows

theorem ite {s t u : State} {p : Prop} [Decidable p] (h : Signalled s t) (k : Signalled s u) :
    Signalled s (if p then t else u) := by
  split
  · exact h
  · exact k

theorem foldl {α : Type} {f : State → α → State} (h : ∀ s a, Signalled s (f s a)) (l : List α) (s : State) :
    Signalled s (l.foldl f s) := by
  induction l generalizing s with
  | nil => exact refl s
  | cons a l ih => exact (h s a).trans (ih (f s a))

theorem setComp {s : State} {c : Comp} {x : Context}
    (h : x = { s.comp c with state := x.state, noted := x.noted }) : Signalled s (s.setComp c x) where
  eq := rfl
  comp d := by
    rw [State.setComp_comp_at]
    split
    · subst d; exact h
    · rfl
  band _ := rfl
  shows := id

theorem setBand {s : State} {i : Fin 128} {x : Band}
    (h : x = { s.band i with noted := x.noted, steamed := x.steamed }) : Signalled s (s.setBand i x) where
  eq := rfl
  comp _ := rfl
  band j := by
    rw [State.setBand_band_at]
    split
    · subst j; exact h
    · rfl
  shows := id

section frame
variable {s t : State} (h : Signalled s t)
include h

theorem plans : t.plans = s.plans := (congrArg State.plans h.eq :)
theorem supplies : t.supplies = s.supplies := (congrArg State.supplies h.eq :)
theorem breach : t.breach = s.breach := (congrArg State.breach h.eq :)

end frame

/-- Signals do not read the supplies. -/
theorem setSupply {s t : State} (h : Signalled s t) (sup : Supply) (r : SupplyRec) :
    Signalled (s.setSupply sup r) (t.setSupply sup r) where
  eq := by
    rw [State.setSupply, State.setSupply, h.supplies, h.eq]
  comp := h.comp
  band := h.band
  shows := h.shows

end Signalled

theorem periodEnd_signalled (c : Comp) (sup : Supply) (s : State) : Signalled s (periodEnd c sup s) := by
  unfold periodEnd
  have h : Signalled s (s.setComp c { s.comp c with noted := false }) := .setComp rfl
  exact .ite (.ite (h.trans (post_noticed _ _ _).signalled) h) (.refl s)

theorem markBand_signalled (c : Comp) (sup : Supply) (s : State) : Signalled s (markBand c sup s) := by
  unfold markBand
  exact (Signalled.setBand rfl).trans (.setComp rfl)

theorem signalOut_signalled (c : Comp) (sup : Supply) (s : State) : Signalled s (signalOut c sup s) :=
  (Signalled.ite (.setComp rfl) (.refl s)).trans (periodEnd_signalled c sup _)

theorem signalIn_signalled (c : Comp) (sup : Supply) (s : State) : Signalled s (signalIn c sup s) :=
  (Signalled.ite (.setComp rfl) (.refl s)).trans (markBand_signalled c sup _)

theorem signalSlot_signalled (sup : Supply) (s : State) (x : Slot) : Signalled s (signalSlot sup s x) := by
  unfold signalSlot
  split
  · exact .refl s
  · rename_i c _
    have h : Signalled s (if x.outOfForce then signalOut c sup s else s) :=
      .ite (signalOut_signalled c sup s) (.refl s)
    exact .ite (h.trans (signalIn_signalled c sup _)) h

/-! ### Whom a signal reaches -/

@[simp] theorem post_comp (ch : Channel) (d : Detail) (s : State) (c : Comp) : (post ch d s).comp c = s.comp c :=
  (post_noticed ch d s).comp c

theorem periodEnd_comp_ne {c d : Comp} (sup : Supply) (s : State) (h : d ≠ c) :
    (periodEnd c sup s).comp d = s.comp d := by
  unfold periodEnd
  dsimp only
  split_ifs <;> simp [State.setComp_comp_ne _ _ _ h]

theorem markBand_comp_ne {c d : Comp} (sup : Supply) (s : State) (h : d ≠ c) :
    (markBand c sup s).comp d = s.comp d :=
  State.setComp_comp_ne _ _ _ h

theorem signalOut_comp_ne {c d : Comp} (sup : Supply) (s : State) (h : d ≠ c) :
    (signalOut c sup s).comp d = s.comp d := by
  rw [signalOut, periodEnd_comp_ne _ _ h]
  split
  · exact State.setComp_comp_ne _ _ _ h
  · rfl

theorem signalIn_comp_ne {c d : Comp} (sup : Supply) (s : State) (h : d ≠ c) :
    (signalIn c sup s).comp d = s.comp d := by
  rw [signalIn, markBand_comp_ne _ _ h]
  split
  · exact State.setComp_comp_ne _ _ _ h
  · rfl

/-- R105: a slot's signals reach its own claimant alone. -/
theorem signalSlot_comp_ne {d : Comp} (sup : Supply) (s : State) {x : Slot} (h : x.entry.claimant ≠ .comp d) :
    (signalSlot sup s x).comp d = s.comp d := by
  unfold signalSlot
  split
  · rfl
  · rename_i c hc
    have hd : d ≠ c := fun e => h (e ▸ hc)
    dsimp only
    split_ifs <;> simp [signalOut_comp_ne, signalIn_comp_ne, hd]

theorem foldl_signalSlot_comp_ne {d : Comp} (sup : Supply) {l : List Slot} (s : State)
    (h : ∀ x ∈ l, x.entry.claimant ≠ .comp d) : (l.foldl (signalSlot sup) s).comp d = s.comp d := by
  induction l generalizing s with
  | nil => rfl
  | cons x l ih =>
    rw [List.foldl_cons, ih _ fun y hy => h y (List.mem_cons_of_mem x hy),
      signalSlot_comp_ne sup s (h x List.mem_cons_self)]

/-- R39: the end of an in-force period clears the compartment's noted-use marker. -/
theorem periodEnd_comp (c : Comp) (sup : Supply) (s : State) :
    (periodEnd c sup s).comp c = { s.comp c with noted := false } := by
  unfold periodEnd
  dsimp only
  by_cases h : (s.comp c).noted = true
  · rw [if_pos h]
    split_ifs <;> simp
  · rw [if_neg h]
    rw [Bool.not_eq_true] at h
    rw [← h]

theorem periodEnd_shows {c : Comp} (sup : Supply) {s : State} (p : Port) (h : (s.comp c).noted = true)
    (hn : s.config.notedNotices = true) : Shows (periodEnd c sup s) p .noted (compsOne c) (suppliesOne sup) := by
  have heq : periodEnd c sup s
      = post .noted (Detail.ofSupply (compsOne c) sup) (s.setComp c { s.comp c with noted := false }) := by
    simp [periodEnd, h, hn]
  rw [heq]
  exact post_shows p _ _ _

/-! ### Passes -/

theorem entryOf_eq_none_iff (l : List Entry) (cl : Claimant) : entryOf l cl = none ↔ cl ∉ l.map Entry.claimant := by
  simp [entryOf]

theorem Slot.Lowered.claimant {x y : Slot} (h : x.Lowered y) : y.entry.claimant = x.entry.claimant :=
  (congrArg Entry.claimant h.1 :)

theorem PassState.Lowered.claimants {ps qs : PassState} (h : ps.Lowered qs) :
    qs.slots.map (fun x => x.entry.claimant) = ps.slots.map fun x => x.entry.claimant := by
  unfold PassState.Lowered at h
  generalize ps.slots = l at h
  generalize qs.slots = m at h
  induction h with
  | nil => rfl
  | cons h _ ih => rw [List.map_cons, List.map_cons, h.claimant, ih]

theorem Slot.moveIntoForce_claimant (x : Slot) : x.moveIntoForce.entry.claimant = x.entry.claimant := by
  unfold Slot.moveIntoForce
  split <;> rfl

/-- A pass leaves every entry in its place. -/
theorem allocate_claimants (cap : Nat) (bench : Bool) (effWant : Entry → Nat) (entries : List Entry)
    (grants : List Claimant) :
    (allocate cap bench effWant entries grants).slots.map (fun x => x.entry.claimant)
      = entries.map Entry.claimant := by
  have hoff : (allocate cap false effWant entries grants).slots.map (fun x => x.entry.claimant)
      = entries.map Entry.claimant :=
    (allocate_lowered cap effWant entries grants).claimants.trans (by simp [PassState.start])
  cases bench with
  | false => exact hoff
  | true =>
    rw [← hoff]
    simp [allocate, benchMove, Slot.moveIntoForce_claimant]

/-- R85, R90: a pass of a supply writes its record, in which every claimant keeps its place, and sends signals. -/
theorem passOne_signalled (sup : Supply) (force : Bool) (changed : PerComp Bool) (s : State) :
    ∃ r, r.entries.map Entry.claimant = (s.supply sup).entries.map Entry.claimant
      ∧ Signalled (s.setSupply sup r) (passOne sup force changed s) := by
  unfold passOne
  extract_lets r ps advance s1 s2 s3
  refine ⟨settledRec s.config.confirmWindow advance r ps, ?_, ?_⟩
  · have hplaces : ps.slots.map (fun x => x.entry.claimant) = r.entries.map Entry.claimant :=
      allocate_claimants _ _ _ _ _
    unfold settledRec
    dsimp only
    split_ifs <;> simpa [Function.comp_def] using hplaces
  · have h2 : Signalled s1 s2 := .foldl (signalSlot_signalled sup) _ _
    have h3 : Signalled s1 s3 := .ite (h2.trans (post_noticed _ _ _).signalled) h2
    exact .ite (h3.trans (post_noticed _ _ _).signalled) h3

/-- R105: a pass leaves a compartment alone that holds no entry of its supply. -/
theorem passOne_comp_of_entry_none {sup : Supply} {s : State} {d : Comp} (force : Bool) (changed : PerComp Bool)
    (h : s.entry sup (.comp d) = none) : (passOne sup force changed s).comp d = s.comp d := by
  have hnone : ∀ x ∈ (allocate (s.supply sup).effCap s.config.bench (s.effectiveWant sup) (s.supply sup).entries
      (s.supply sup).grants).slots, x.entry.claimant ≠ .comp d := by
    intro x hx hd
    refine (entryOf_eq_none_iff _ _).1 h ?_
    rw [← allocate_claimants (s.supply sup).effCap s.config.bench (s.effectiveWant sup) _ (s.supply sup).grants,
      ← hd]
    exact List.mem_map_of_mem hx
  have hpost (b : Bool) (ch : Channel) (a : Detail) (u : State) :
      (if b = true then post ch a u else u).comp d = u.comp d := by split <;> simp
  unfold passOne
  dsimp only
  rw [hpost, hpost, foldl_signalSlot_comp_ne sup _ hnone]
  rfl

/-! ### Withdrawals of a compartment's entry -/

theorem State.setSupply_self (s : State) (sup : Supply) : s.setSupply sup (s.supply sup) = s := by cases sup <;> rfl

@[simp] theorem State.setSupply_setSupply (s : State) (sup : Supply) (x y : SupplyRec) :
    (s.setSupply sup x).setSupply sup y = s.setSupply sup y := by
  cases sup <;> rfl

theorem entry_claimant {s : State} {sup : Supply} {cl : Claimant} {e : Entry} (h : s.entry sup cl = some e) :
    e.claimant = cl := by
  simpa using List.find?_some h

theorem entryOf_without (r : SupplyRec) (cl : Claimant) : entryOf (r.without cl).entries cl = none := by
  simp [entryOf, SupplyRec.without]

/-- The state in which the pass after a withdrawal begins (R39, R75). -/
def withdrawn (sup : Supply) (e : Entry) (s : State) : State :=
  withdrawnPeriod sup e (s.modSupply sup fun r => r.without e.claimant)

/-- R75: a withdrawal from STEAM or DRYAIR, which no other supply depends on. -/
theorem withdraw_eq {sup : Supply} {cl : Claimant} {e : Entry} {s : State} (hsup : sup ≠ .mains)
    (he : s.entry sup cl = some e) :
    withdraw sup cl s = passOne sup (0 < e.inForce || e.offered.isSome) cl.comps (withdrawn sup e s) := by
  simp only [withdraw, he, withdrawn, entry_claimant he]
  cases sup
  · exact absurd rfl hsup
  · rfl
  · rfl

section withdrawn
variable {sup : Supply} {k : Comp} {e : Entry} {s : State} (he : s.entry sup (.comp k) = some e)
include he

theorem withdrawn_eq :
    withdrawn sup e s = if 0 < e.inForce then periodEnd k sup (s.setSupply sup ((s.supply sup).without (.comp k)))
      else s.setSupply sup ((s.supply sup).without (.comp k)) := by
  simp [withdrawn, withdrawnPeriod, entry_claimant he]

theorem withdrawn_signalled :
    Signalled (s.setSupply sup ((s.supply sup).without (.comp k))) (withdrawn sup e s) := by
  rw [withdrawn_eq he]
  exact .ite (periodEnd_signalled _ _ _) (.refl _)

theorem withdrawn_entry : (withdrawn sup e s).entry sup (.comp k) = none := by
  rw [State.entry, State.supply, (withdrawn_signalled he).supplies]
  exact (congrArg (fun r : SupplyRec => entryOf r.entries (.comp k)) (State.setSupply_supply s sup _)).trans
    (entryOf_without _ _)

/-- R39, R75: of its own compartment a withdrawal changes the noted-use marker alone, and clears it where the entry was
in force. -/
theorem withdraw_comp (hsup : sup ≠ .mains) :
    (withdraw sup (.comp k) s).comp k
      = { s.comp k with noted := if 0 < e.inForce then false else (s.comp k).noted } := by
  rw [withdraw_eq hsup he, passOne_comp_of_entry_none _ _ (withdrawn_entry he), withdrawn_eq he]
  split_ifs
  · exact periodEnd_comp _ _ _
  · rfl

/-- R39: the end of the in-force period shows on every port. -/
theorem withdraw_shows (hsup : sup ≠ .mains) (hpos : 0 < e.inForce) (hnoted : (s.comp k).noted = true)
    (hnotices : s.config.notedNotices = true) (p : Port) :
    Shows (withdraw sup (.comp k) s) p .noted (compsOne k) (suppliesOne sup) := by
  have hend : Shows (withdrawn sup e s) p .noted (compsOne k) (suppliesOne sup) := by
    rw [withdrawn_eq he, if_pos hpos]
    exact periodEnd_shows sup p hnoted hnotices
  rw [withdraw_eq hsup he]
  obtain ⟨r, -, hr⟩ :=
    passOne_signalled sup (0 < e.inForce || e.offered.isSome) (Claimant.comp k).comps (withdrawn sup e s)
  exact hr.shows hend

end withdrawn

/-- R75: a withdrawal from STEAM or DRYAIR leaves the supply without the entry, and signals. -/
theorem withdraw_signalled {sup : Supply} (hsup : sup ≠ .mains) (k : Comp) (s : State) :
    ∃ r, entryOf r.entries (.comp k) = none ∧ Signalled (s.setSupply sup r) (withdraw sup (.comp k) s) := by
  cases he : s.entry sup (.comp k) with
  | none =>
    rw [withdraw_of_entry_none he]
    exact ⟨s.supply sup, he, by rw [State.setSupply_self]; exact .refl s⟩
  | some e =>
    rw [withdraw_eq hsup he]
    obtain ⟨r, hplaces, hr⟩ :=
      passOne_signalled sup (0 < e.inForce || e.offered.isSome) (Claimant.comp k).comps (withdrawn sup e s)
    refine ⟨r, ?_, ?_⟩
    · rw [entryOf_eq_none_iff, hplaces, ← entryOf_eq_none_iff]
      exact withdrawn_entry he
    · have hstart := (withdrawn_signalled he).setSupply sup r
      rw [State.setSupply_setSupply] at hstart
      exact hstart.trans hr

/-! ### The end of a treatment -/

/-- R3: no step draws MAINS. -/
theorem curSupply_ne_mains {s : State} {k : Comp} {sup : Supply} (h : s.curSupply k = some sup) : sup ≠ .mains := by
  obtain ⟨st, -, hst⟩ := Option.bind_eq_some_iff.1 h
  rintro rfl
  cases hk : st.kind <;> simp [hk, StepKind.supply] at hst

theorem withdrawComp_of_curSupply {s : State} {k : Comp} {sup : Supply} (h : s.curSupply k = some sup) :
    withdrawComp k s = withdraw sup (.comp k) s := by
  simp [withdrawComp, h]

/-- R7: the compartment's entry of its current step's supply leaves. -/
theorem withdrawComp_signalled (k : Comp) (s : State) :
    ∃ sups : PerSupply SupplyRec,
      (∀ sup, s.curSupply k = some sup → entryOf (sups.get sup).entries (.comp k) = none)
      ∧ Signalled { s with supplies := sups } (withdrawComp k s) := by
  cases hcur : s.curSupply k with
  | none => exact ⟨s.supplies, nofun, by simpa [withdrawComp, hcur] using Signalled.refl s⟩
  | some sup =>
    obtain ⟨r, hr, hs⟩ := withdraw_signalled (curSupply_ne_mains hcur) k s
    rw [withdrawComp_of_curSupply hcur]
    refine ⟨s.supplies.set sup r, ?_, hs⟩
    rintro _ ⟨⟩
    rwa [PerSupply.get_set_self]

theorem withdrawComp_comp (k : Comp) (s : State) :
    (withdrawComp k s).comp k = { s.comp k with noted := ((withdrawComp k s).comp k).noted } := by
  cases hcur : s.curSupply k with
  | none => simp [withdrawComp, hcur]
  | some sup =>
    rw [withdrawComp_of_curSupply hcur]
    cases he : s.entry sup (.comp k) with
    | none => rw [withdraw_of_entry_none he]
    | some e => rw [withdraw_comp he (curSupply_ne_mains hcur)]

/-- R16: the state in which a treatment has ended, before its notices. -/
def ended (k : Comp) (o : TreatOutcome) (last : StepOutcome) (s : State) : State :=
  ((withdrawComp k s).setPlan k (setOutcome (s.plan k) (s.comp k).step last)).setComp k
    (((withdrawComp k s).comp k).endedWith o)

theorem endTreatment_eq (k : Comp) (o : TreatOutcome) (last : StepOutcome) (s : State) :
    endTreatment k o (some last) s
      = post .stepend (Detail.ofComp k) (post .treatend (Detail.ofComp k) (ended k o last s)) := by
  obtain ⟨sups, -, hs⟩ := withdrawComp_signalled k s
  have hplan : (withdrawComp k s).plan k = s.plan k := by rw [State.plan, hs.plans]; rfl
  have hstep : ((withdrawComp k s).comp k).step = (s.comp k).step := by rw [withdrawComp_comp]
  rw [ended, ← hplan, ← hstep]
  rfl

section endTreatment
variable (k : Comp) (o : TreatOutcome) (last : StepOutcome) (s : State)

theorem endTreatment_noticed : Noticed (ended k o last s) (endTreatment k o (some last) s) := by
  rw [endTreatment_eq]
  exact (post_noticed _ _ _).trans (post_noticed _ _ _)

theorem endTreatment_shows_treatend (p : Port) :
    Shows (endTreatment k o (some last) s) p .treatend (compsOne k) suppliesNone := by
  rw [endTreatment_eq]
  exact (post_noticed _ _ _).shows (post_shows p .treatend (Detail.ofComp k) _)

theorem endTreatment_shows_stepend (p : Port) :
    Shows (endTreatment k o (some last) s) p .stepend (compsOne k) suppliesNone := by
  rw [endTreatment_eq]
  exact post_shows p .stepend (Detail.ofComp k) _

end endTreatment

section ended
variable (k : Comp) (o : TreatOutcome) (last : StepOutcome) (s : State)

theorem ended_kept : Kept s (ended k o last s) := by
  have hin := withdrawComp_inside k s
  obtain ⟨sups, -, hs⟩ := withdrawComp_signalled k s
  exact ⟨hin.mode, hin.config, hin.profiles, hin.feeders, hin.pointers, hin.pending, hs.band⟩

theorem ended_breach : (ended k o last s).breach = s.breach := by
  obtain ⟨sups, -, hs⟩ := withdrawComp_signalled k s
  exact hs.breach

/-- R12, R39: the other compartments meet only the signals of the pass. -/
theorem ended_othersKept : OthersKept k s (ended k o last s) := by
  obtain ⟨sups, -, hs⟩ := withdrawComp_signalled k s
  intro d hd
  have hplan : (ended k o last s).plan d = s.plan d := by
    rw [ended, State.plan, State.setComp_plans, ← State.plan, State.setPlan_plan_ne _ _ _ hd, State.plan, hs.plans]
    rfl
  have hcomp : (ended k o last s).comp d = (withdrawComp k s).comp d := State.setComp_comp_ne _ _ _ hd
  exact ⟨hplan, by rw [hcomp]; exact hs.comp d⟩

theorem ended_comp_eq : (ended k o last s).comp k = ((withdrawComp k s).comp k).endedWith o := State.setComp_comp _ _ _

theorem ended_comp :
    (ended k o last s).comp k
      = { s.comp k with
          pause := .none, hold := .none, outcome := o, state := .ended
          noted := ((ended k o last s).comp k).noted } := by
  rw [ended_comp_eq, withdrawComp_comp]
  rfl

theorem ended_plan : (ended k o last s).plan k = setOutcome (s.plan k) (s.comp k).step last :=
  State.setPlan_plan _ _ _

variable {k s}

theorem ended_entry {sup : Supply} (hcur : s.curSupply k = some sup) :
    (ended k o last s).entry sup (.comp k) = none := by
  obtain ⟨sups, hnone, hs⟩ := withdrawComp_signalled k s
  have hsup : (ended k o last s).supplies = sups := hs.supplies
  rw [State.entry, State.supply, hsup]
  exact hnone sup hcur

theorem ended_noted {sup : Supply} {e : Entry} (hcur : s.curSupply k = some sup)
    (he : s.entry sup (.comp k) = some e) :
    ((ended k o last s).comp k).noted = if 0 < e.inForce then false else (s.comp k).noted := by
  rw [ended_comp_eq, withdrawComp_of_curSupply hcur, withdraw_comp he (curSupply_ne_mains hcur)]
  rfl

theorem ended_shows_noted {sup : Supply} {e : Entry} (hcur : s.curSupply k = some sup)
    (he : s.entry sup (.comp k) = some e) (hpos : 0 < e.inForce) (hnoted : (s.comp k).noted = true)
    (hnotices : s.config.notedNotices = true) (p : Port) :
    Shows (ended k o last s) p .noted (compsOne k) (suppliesOne sup) := by
  have hshows := withdraw_shows he (curSupply_ne_mains hcur) hpos hnoted hnotices p
  rwa [← withdrawComp_of_curSupply hcur] at hshows

end ended

end Sys2Proof.Machine
end

section
/-! PROOFS. The end of a treatment by request: TSTOP (R16, R17, R38, R39). -/

namespace Sys2Proof.Machine

/-- Settles O23: R17's two checks; an accepted request ends the treatment as the lemmas about ended say. -/
theorem tstopEndsATreatment : Obligations.TstopEndsATreatment := by
  unfold Obligations.TstopEndsATreatment
  intro s tag c h
  have hkind : (Request.tstop c).kind ||| 0x80 = 0x87 := by simp [Request.kind]
  have refused (st : Status) {code : Byte}
      (ha : doTstop c (startInterval .panel s) = answer st (startInterval .panel s))
      (hst : (st.accepted || st.isFault) = false) (hcode : st.code = code) :
      exec (.tstop .panel tag c) s = .next (refusedWith .panel 0x87 tag code s) :=
    congrArg _ (submit_refused (r := .tstop c) h rfl ha hst hkind hcode)
  refine ⟨fun hc => refused .range (withComp_of_none hc _ _) rfl rfl, fun k hc =>
    ⟨fun hrun => refused .state (by simp [doTstop, hc, hrun]) rfl rfl, fun hrun => ?_⟩⟩
  let s0 := startInterval .panel s
  let v := ended k .stopped .stopped s0
  have haccept : doTstop c s0 = answer .ok (endTreatment k .stopped (some .stopped) s0) := by
    simp [doTstop, hc, hrun, s0]
  obtain ⟨x, ht⟩ := acceptedWith_panel 0x87 tag acceptedEvent (endTreatment k .stopped (some .stopped) s0)
  have htake := ((endTreatment_noticed k .stopped .stopped s0).panelTake [0x04, 0x87, tag, 0x00] x).trans ht
  have hcomp : _ = v.comp k := comp_of_panelTake htake k
  have hkept : Kept s v := (ended_kept k .stopped .stopped s0).of_startInterval
  have hothers : OthersKept k s v := ended_othersKept k .stopped .stopped s0
  have hinside := withdrawComp_inside k s0
  refine ⟨_, congrArg Host.Outcome.next (submit_accepted (r := .tstop c) h rfl haccept rfl hkind),
    answered_of_panelTake htake hinside.cpis hinside.scores, hkept.panelTake htake, hothers.panelTake htake,
    (breach_of_panelTake htake).trans (ended_breach k .stopped .stopped s0), ?_, ?_, ?_, ?_, fun p => ⟨?_, ?_⟩⟩
  · rw [hcomp]
    exact ended_comp k .stopped .stopped s0
  · exact (plan_of_panelTake htake k).trans (ended_plan k .stopped .stopped s0)
  · intro sup hcur
    rw [State.entry, State.supply, supplies_of_panelTake htake]
    exact ended_entry (s := s0) .stopped .stopped hcur
  · intro sup e hcur he
    have hnoted := ended_noted (s := s0) .stopped .stopped hcur he
    rw [hcomp]
    refine ⟨fun hzero => hnoted.trans (if_neg (by omega)), fun hpos => ⟨hnoted.trans (if_pos hpos), ?_⟩⟩
    intro hset hnotices p
    exact shows_of_panelTake htake (ended_shows_noted (s := s0) .stopped .stopped hcur he hpos hset hnotices p)
  · exact shows_of_panelTake ht (endTreatment_shows_treatend k .stopped .stopped s0 p)
  · exact shows_of_panelTake ht (endTreatment_shows_stepend k .stopped .stopped s0 p)

end Sys2Proof.Machine
end

section
/-! PROOFS. Profile binding: BIND (R6, R31). -/

namespace Sys2Proof.Machine

theorem Caps.covers_eq_false_iff (caps requires : Caps) :
    caps.covers requires = false
      ↔ (requires.steam = true ∧ caps.steam = false) ∨ (requires.warm = true ∧ caps.warm = false) := by
  simp only [Caps.covers, Bool.and_eq_false_iff, Bool.or_eq_false_iff, Bool.not_eq_false']

section doBind
variable {c prof : Byte} {k : Comp} {s : State} (hc : compOf c = some k)
include hc

theorem doBind_of_running (hrun : s.running k = true) : doBind c prof s = answer .busy s := by
  rw [doBind, withComp_of_some hc, if_pos hrun]

variable (hrun : ¬ s.running k = true)
include hrun

/-- R31, check 3: profile 0 unbinds, whatever is bound. -/
theorem doBind_zero : doBind c 0x00 s = answer .ok (s.setComp k { s.comp k with profile := 0 }) := by
  rw [doBind, withComp_of_some hc, if_neg hrun]
  rfl

theorem doBind_of_out_of_range (hlt : ¬ prof.toNat < 16) : doBind c prof s = answer .range s := by
  rw [doBind, withComp_of_some hc, if_neg hrun, if_neg (by omega), if_pos (by omega)]

/-- R31, checks 5 and 6: the row of a profile 1..15 decides. -/
theorem doBind_of_lt (hzero : prof ≠ 0x00) (hlt : prof.toNat < 16) :
    doBind c prof s =
      if (s.profile ⟨prof.toNat, hlt⟩).present = false then answer .absent s
      else if (s.profile ⟨prof.toNat, hlt⟩).requires.steam = true ∧ (s.config.caps.get k).steam = false
        ∨ (s.profile ⟨prof.toNat, hlt⟩).requires.warm = true ∧ (s.config.caps.get k).warm = false then
        answer .unsuited s
      else answer .ok (s.setComp k { s.comp k with profile := ⟨prof.toNat, hlt⟩ }) := by
  have hnat : prof.toNat ≠ 0 := fun h => hzero (BitVec.eq_of_toNat_eq h)
  have hindex : Fin.ofNat 16 prof.toNat = ⟨prof.toNat, hlt⟩ := Fin.ext (Nat.mod_eq_of_lt hlt)
  rw [doBind, withComp_of_some hc, if_neg hrun, if_neg hnat, if_neg (by omega), hindex]
  simp only [Bool.not_eq_true', Caps.covers_eq_false_iff, State.modComp_eq]

end doBind

/-- Settles O19: the checks of R31 in order, each answer carried through the take. -/
theorem bindChecksAndBinds : Obligations.BindChecksAndBinds := by
  unfold Obligations.BindChecksAndBinds
  intro s tag c prof h
  refine congrArg Host.Outcome.next ?_
  have hkind : (Request.bind c prof).kind ||| 0x80 = 0x83 := by simp [Request.kind]
  let s0 := startInterval .panel s
  have refused {st : Status} {code : Byte} (ha : doBind c prof s0 = answer st s0)
      (hst : (st.accepted || st.isFault) = false) (hcode : st.code = code) :
      submit .panel tag (.bind c prof) s = refusedWith .panel 0x83 tag code s :=
    submit_refused (r := .bind c prof) h rfl ha hst hkind hcode
  have accepted {t : State} (ha : doBind c prof s0 = answer .ok t) :
      submit .panel tag (.bind c prof) s = acceptedWith .panel 0x83 tag acceptedEvent t :=
    submit_accepted (r := .bind c prof) h rfl ha rfl hkind
  cases hc : compOf c with
  | none => exact refused (withComp_of_none hc _ _) rfl rfl
  | some k =>
    dsimp only
    split_ifs with hrun hzero hlt hpres hcaps
    · exact refused (doBind_of_running hc hrun) rfl rfl
    · subst hzero
      exact accepted (doBind_zero hc hrun)
    · exact refused ((doBind_of_lt (s := s0) hc hrun hzero hlt).trans (if_pos hpres)) rfl rfl
    · exact refused ((doBind_of_lt (s := s0) hc hrun hzero hlt).trans ((if_neg hpres).trans (if_pos hcaps))) rfl rfl
    · exact accepted ((doBind_of_lt (s := s0) hc hrun hzero hlt).trans ((if_neg hpres).trans (if_neg hcaps)))
    · exact refused (doBind_of_out_of_range hc hrun hlt) rfl rfl

end Sys2Proof.Machine
end

section
/-! PROOFS. In-force amounts and the noted-use marker (R39, R71, R105): what signals, a pass with bench off and a
withdrawal leave of them. -/

namespace Sys2Proof.Machine

/-! ### Signals, treatments and band flags -/

/-- t is s after signals of an allocation, by which no treatment starts or ends and no band loses a flag. -/
structure Signals (s t : State) : Prop extends Signalled s t where
  running : ∀ c, t.running c = s.running c
  noted : ∀ i, (s.band i).noted = true → (t.band i).noted = true
  steamed : ∀ i, (s.band i).steamed = true → (t.band i).steamed = true

theorem Noticed.signals {s t : State} (h : Noticed s t) : Signals s t where
  toSignalled := h.signalled
  running c := by rw [State.running, h.comp]; rfl
  noted i hi := by rw [h.eq]; exact hi
  steamed i hi := by rw [h.eq]; exact hi

namespace Signals

theorem refl (s : State) : Signals s s := (Noticed.refl s).signals

theorem trans {s t u : State} (h : Signals s t) (k : Signals t u) : Signals s u where
  toSignalled := h.toSignalled.trans k.toSignalled
  running c := (k.running c).trans (h.running c)
  noted i := k.noted i ∘ h.noted i
  steamed i := k.steamed i ∘ h.steamed i

theorem ite {s t u : State} {p : Prop} [Decidable p] (h : Signals s t) (k : Signals s u) :
    Signals s (if p then t else u) := by
  split
  · exact h
  · exact k

theorem foldl {α : Type} {f : State → α → State} (h : ∀ s a, Signals s (f s a)) (l : List α) (s : State) :
    Signals s (l.foldl f s) := by
  induction l generalizing s with
  | nil => exact refl s
  | cons a l ih => exact (h s a).trans (ih (f s a))

theorem setComp {s : State} {c : Comp} {x : Context} (h : x = { s.comp c with state := x.state, noted := x.noted })
    (hrun : x.state.isRunning = (s.comp c).state.isRunning) : Signals s (s.setComp c x) where
  toSignalled := .setComp h
  running d := by
    rw [State.running, State.setComp_comp_at]
    split
    · subst d; exact hrun
    · rfl
  noted _ := id
  steamed _ := id

end Signals

theorem markBand_band (c : Comp) (sup : Supply) (s : State) (i : Fin 128) :
    (markBand c sup s).band i =
      if i = s.curBandRow c then
        { s.band i with noted := (s.band i).noted || (s.band i).key.notes sup
                        steamed := (s.band i).steamed || sup == .steam }
      else s.band i := by
  refine (State.setBand_band_at s _ _ i).trans ?_
  split
  · subst i; rfl
  · rfl

theorem markBand_noted (c : Comp) (sup : Supply) (s : State) :
    ((markBand c sup s).comp c).noted = ((s.comp c).noted || (s.band (s.curBandRow c)).key.notes sup) := by
  simp [markBand]

theorem markBand_signals (c : Comp) (sup : Supply) (s : State) : Signals s (markBand c sup s) where
  toSignalled := markBand_signalled c sup s
  running d := by
    by_cases h : d = c
    · subst d; simp [markBand, State.running]
    · rw [State.running, markBand_comp_ne sup s h]; rfl
  noted i hi := by rw [markBand_band]; split <;> simp [hi]
  steamed i hi := by rw [markBand_band]; split <;> simp [hi]

theorem periodEnd_signals (c : Comp) (sup : Supply) (s : State) : Signals s (periodEnd c sup s) := by
  unfold periodEnd
  have h : Signals s (s.setComp c { s.comp c with noted := false }) := .setComp rfl rfl
  exact .ite (.ite (h.trans (post_noticed _ _ _).signals) h) (.refl s)

theorem signalOut_signals (c : Comp) (sup : Supply) (s : State) : Signals s (signalOut c sup s) := by
  refine Signals.trans ?_ (periodEnd_signals c sup _)
  split
  case isTrue h => exact .setComp rfl (by rw [h]; rfl)
  case isFalse => exact .refl s

theorem signalIn_signals (c : Comp) (sup : Supply) (s : State) : Signals s (signalIn c sup s) := by
  refine Signals.trans ?_ (markBand_signals c sup _)
  split
  case isTrue h => exact .setComp rfl (by rw [h]; rfl)
  case isFalse => exact .refl s

theorem signalSlot_signals (sup : Supply) (s : State) (x : Slot) : Signals s (signalSlot sup s x) := by
  unfold signalSlot
  split
  · exact .refl s
  · rename_i c _
    have h : Signals s (if x.outOfForce then signalOut c sup s else s) := .ite (signalOut_signals c sup s) (.refl s)
    exact .ite (h.trans (signalIn_signals c sup _)) h

/-! ### Signals out of force -/

theorem Noticed.bands {s t : State} (h : Noticed s t) : t.bands = s.bands := (congrArg State.bands h.eq :)

theorem periodEnd_bands (c : Comp) (sup : Supply) (s : State) : (periodEnd c sup s).bands = s.bands := by
  unfold periodEnd
  dsimp only
  split_ifs <;> simp [(post_noticed _ _ _).bands]

/-- The slot sends its compartment c out of force (R105). -/
def Slot.sendsOut (c : Comp) (x : Slot) : Bool := x.entry.claimant == .comp c && x.outOfForce

section signalSlot
variable {x : Slot} (hx : x.intoForce = false) (sup : Supply) (s : State)
include hx

theorem signalSlot_of_not_intoForce {c : Comp} (hc : x.entry.claimant = .comp c) :
    signalSlot sup s x = if x.outOfForce then signalOut c sup s else s := by
  simp [signalSlot, hc, hx]

theorem signalSlot_bands : (signalSlot sup s x).bands = s.bands := by
  cases hc : x.entry.claimant with
  | supplier u => simp [signalSlot, hc]
  | comp c =>
    rw [signalSlot_of_not_intoForce hx sup s hc]
    split
    · rw [signalOut, periodEnd_bands]
      split <;> rfl
    · rfl

theorem signalSlot_noted (c : Comp) :
    ((signalSlot sup s x).comp c).noted = ((s.comp c).noted && !x.sendsOut c) := by
  by_cases hc : x.entry.claimant = .comp c
  · rw [signalSlot_of_not_intoForce hx sup s hc]
    cases hout : x.outOfForce <;> simp [Slot.sendsOut, hc, hout, signalOut, periodEnd_comp]
  · simp [signalSlot_comp_ne sup s hc, Slot.sendsOut, hc]

theorem signalSlot_shows {c : Comp} {s : State} (hout : x.sendsOut c = true) (hnoted : (s.comp c).noted = true)
    (hn : s.config.notedNotices = true) (p : Port) :
    Shows (signalSlot sup s x) p .noted (compsOne c) (suppliesOne sup) := by
  obtain ⟨hc, hforce⟩ : x.entry.claimant = .comp c ∧ x.outOfForce = true := by simpa [Slot.sendsOut] using hout
  rw [signalSlot_of_not_intoForce hx sup s hc, if_pos hforce]
  refine periodEnd_shows sup p ?_ ?_ <;> split <;> simp [hnoted, hn]

end signalSlot

section foldl_signalSlot
variable {l : List Slot} (hl : ∀ x ∈ l, x.intoForce = false) (sup : Supply) (s : State)
include hl

theorem foldl_signalSlot_bands : (l.foldl (signalSlot sup) s).bands = s.bands := by
  induction l generalizing s with
  | nil => rfl
  | cons x l ih =>
    obtain ⟨hx, hl⟩ := List.forall_mem_cons.1 hl
    rw [List.foldl_cons, ih hl, signalSlot_bands hx]

/-- R39: the noted-use marker is lost exactly by a slot that sends the compartment out of force. -/
theorem foldl_signalSlot_noted (c : Comp) :
    ((l.foldl (signalSlot sup) s).comp c).noted = ((s.comp c).noted && !l.any (Slot.sendsOut c)) := by
  induction l generalizing s with
  | nil => simp
  | cons x l ih =>
    obtain ⟨hx, hl⟩ := List.forall_mem_cons.1 hl
    rw [List.foldl_cons, ih hl, signalSlot_noted hx]
    simp [Bool.and_assoc]

theorem foldl_signalSlot_shows {c : Comp} {s : State} (hout : l.any (Slot.sendsOut c) = true)
    (hnoted : (s.comp c).noted = true) (hn : s.config.notedNotices = true) (p : Port) :
    Shows (l.foldl (signalSlot sup) s) p .noted (compsOne c) (suppliesOne sup) := by
  induction l generalizing s with
  | nil => simp at hout
  | cons x l ih =>
    obtain ⟨hx, hl⟩ := List.forall_mem_cons.1 hl
    rw [List.foldl_cons]
    cases hc : x.sendsOut c with
    | true => exact (Signals.foldl (signalSlot_signals sup) l _).shows (signalSlot_shows hx sup hc hnoted hn p)
    | false =>
      have hconfig : (signalSlot sup s x).config = s.config := (signalSlot_inside sup s x).config
      exact ih hl (by simpa [hc] using hout) (by rw [signalSlot_noted hx, hnoted, hc]; rfl) (by rw [hconfig, hn])

end foldl_signalSlot

/-! ### In-force amounts -/

/-- The in-force amount a claimant holds in a list, 0 where it has no entry. -/
def inForceOf (l : List Entry) (cl : Claimant) : Nat := (entryOf l cl).elim 0 Entry.inForce

/-- The in-force amount a claimant holds on a supply. -/
def State.inForce (s : State) (sup : Supply) (cl : Claimant) : Nat := inForceOf (s.supply sup).entries cl

theorem State.inForce_pos_iff (s : State) (sup : Supply) (cl : Claimant) :
    0 < s.inForce sup cl ↔ ∃ e, s.entry sup cl = some e ∧ 0 < e.inForce := by
  unfold State.inForce inForceOf State.entry
  cases entryOf (s.supply sup).entries cl <;> simp

theorem State.inForce_of_entry {s : State} {sup : Supply} {cl : Claimant} {e : Entry} (h : s.entry sup cl = some e) :
    s.inForce sup cl = e.inForce :=
  congrArg (fun o : Option Entry => o.elim 0 Entry.inForce) h

theorem State.inForce_of_entry_none {s : State} {sup : Supply} {cl : Claimant} (h : s.entry sup cl = none) :
    s.inForce sup cl = 0 :=
  congrArg (fun o : Option Entry => o.elim 0 Entry.inForce) h

theorem State.inForce_congr {s t : State} {sup : Supply} (h : t.supply sup = s.supply sup) (cl : Claimant) :
    t.inForce sup cl = s.inForce sup cl := by
  rw [State.inForce, h]
  rfl

theorem inForceOf_of_mem {l : List Entry} (hl : (l.map Entry.claimant).Nodup) {e : Entry} (he : e ∈ l) :
    inForceOf l e.claimant = e.inForce := by
  induction l with
  | nil => simp at he
  | cons a l ih =>
    obtain ⟨ha, hl⟩ := List.nodup_cons.1 hl
    by_cases hc : a.claimant = e.claimant
    · rcases List.mem_cons.1 he with rfl | he
      · simp [inForceOf, entryOf]
      · exact absurd (hc ▸ List.mem_map_of_mem he) ha
    · rcases List.mem_cons.1 he with rfl | he
      · exact absurd rfl hc
      · simpa [inForceOf, entryOf, hc] using ih hl he

/-- The in-force amount is that of an entry of the list. -/
theorem exists_mem_of_inForceOf_pos {l : List Entry} {cl : Claimant} (h : 0 < inForceOf l cl) :
    ∃ e ∈ l, e.claimant = cl := by
  unfold inForceOf at h
  cases he : entryOf l cl with
  | none => simp [he] at h
  | some e => exact ⟨e, List.mem_of_find?_eq_some he, by simpa using List.find?_some he⟩

theorem inForceOf_map {f : Entry → Entry} (hc : ∀ e, (f e).claimant = e.claimant)
    (hf : ∀ e, (f e).inForce = e.inForce) (l : List Entry) (cl : Claimant) :
    inForceOf (l.map f) cl = inForceOf l cl := by
  simp only [inForceOf, entryOf, List.find?_map, Function.comp_def, hc]
  cases l.find? fun e => e.claimant == cl <;> simp [hf]

theorem inForceOf_append_waiting {l : List Entry} {e : Entry} (he : e.inForce = 0) (cl : Claimant) :
    inForceOf (l ++ [e]) cl = inForceOf l cl := by
  simp only [inForceOf, entryOf, List.find?_append, List.find?_singleton]
  cases l.find? fun e => e.claimant == cl with
  | some a => rfl
  | none => by_cases hc : e.claimant = cl <;> simp [hc, he]

theorem inForceOf_without (r : SupplyRec) (cl cl' : Claimant) :
    inForceOf (r.without cl).entries cl' = if cl' = cl then 0 else inForceOf r.entries cl' := by
  split
  case isTrue h => simp [h, inForceOf, entryOf_without]
  case isFalse h =>
    have hp : ∀ e : Entry, (e.claimant != cl) = true ∧ (e.claimant == cl') = true ↔ (e.claimant == cl') = true :=
      fun e => by by_cases he : e.claimant = cl' <;> simp [he, h]
    simp only [inForceOf, entryOf, SupplyRec.without, List.find?_filter, hp, Bool.decide_eq_true]

/-! ### The slots of a pass with bench off -/

section allocate
variable {P : Slot → Prop}
  (hoffered : ∀ (x : Slot) o a b, P x → P { x with entry := { x.entry with offered := o }, touched := a, shed := b })
  (hcut : ∀ (x : Slot) n, P x → P (x.cutTo n))

/-- The condition holds of every slot. -/
def PassState.Each (P : Slot → Prop) (ps : PassState) : Prop := ∀ x ∈ ps.slots, P x

theorem PassState.Each.update {ps : PassState} (h : ps.Each P) (cl : Claimant) {f : Slot → Slot}
    (hf : ∀ x, P x → P (f x)) : (ps.update cl f).Each P := by
  intro y hy
  obtain ⟨x, hx, rfl⟩ := List.mem_map.1 hy
  split
  · exact hf x (h x hx)
  · exact h x hx

theorem PassState.Each.leaveIfEmpty {ps : PassState} (h : ps.Each P) (cl : Claimant) :
    (ps.leaveIfEmpty cl).Each P := by
  rwa [PassState.Each, PassState.leaveIfEmpty_slots]

theorem PassState.Each.foldl {α : Type} {f : PassState → α → PassState} (hf : ∀ ps a, ps.Each P → (f ps a).Each P)
    (l : List α) {ps : PassState} (h : ps.Each P) : (l.foldl f ps).Each P := by
  induction l generalizing ps with
  | nil => exact h
  | cons a l ih => exact ih (hf ps a h)

include hoffered

theorem Slot.dropOffer_keeps (x : Slot) (h : P x) : P x.dropOffer := by
  unfold Slot.dropOffer
  split
  · exact hoffered x none true true h
  · exact h

theorem PassState.Each.offer {ps : PassState} (h : ps.Each P) (cl : Claimant) (n : Nat) : (ps.offer cl n).Each P :=
  h.update cl fun x => hoffered x (some n) true x.shed

theorem topUpOne_each (cap : Nat) (ps : PassState) (cl : Claimant) (h : ps.Each P) : (topUpOne cap ps cl).Each P := by
  unfold topUpOne
  dsimp only
  split
  · exact h
  · split
    · exact h.offer hoffered cl _
    · exact h

include hcut

theorem Slot.take_keeps (x : Slot) (n : Nat) (h : P x) : P (x.take n) := by
  unfold Slot.take
  split
  · exact h
  · split
    · exact hcut x _ h
    · split
      · exact hoffered x _ true true h
      · exact hcut _ _ (x.dropOffer_keeps hoffered h)

theorem stageA_each (cap : Nat) {ps : PassState} (h : ps.Each P) : (stageA cap ps).Each P := by
  unfold stageA sweepWant sweepOffers sweepAboveMin sweepWhole
  have drop (x : Slot) : P x → P x.dropOffer := x.dropOffer_keeps hoffered
  refine .foldl (fun ps cl h => ?_) _ (.foldl (fun ps cl h => ?_) _ (.foldl (fun ps cl h => ?_) _
    (.foldl (fun ps cl h => ?_) _ h)))
  · split
    · exact h
    · exact (h.update cl fun x hx => hcut _ _ (drop x hx)).leaveIfEmpty cl
  · refine h.update cl fun x hx => ?_
    split
    · exact hcut x _ hx
    · exact hx
  · split
    · exact h
    · exact (h.update cl drop).leaveIfEmpty cl
  · refine (h.update cl fun x hx => ?_).leaveIfEmpty cl
    split
    · exact hcut _ _ (drop x hx)
    · exact hx

theorem reclaim_each (code : Nat) (l : List Claimant) (need : Nat) {ps : PassState} (h : ps.Each P) :
    (reclaim code l need ps).Each P := by
  induction l generalizing need ps with
  | nil => exact h
  | cons cl l ih =>
    unfold reclaim
    split
    · exact ih _ h
    · exact ih _ (h.update cl fun x => x.take_keeps hoffered hcut _)

theorem serveOne_each (cap : Nat) (ps : PassState) (cl : Claimant) (h : ps.Each P) : (serveOne cap ps cl).Each P := by
  unfold serveOne
  split
  · exact h
  · dsimp only
    split_ifs
    · exact h
    · exact h.offer hoffered cl _
    · exact h.offer hoffered cl _
    · exact h
    · exact (reclaim_each hoffered hcut _ _ _ h).offer hoffered cl _
    · exact h

/-- With bench off a pass changes slots by offers and cuts alone, so what both keep holds of every slot it leaves. -/
theorem allocate_each (cap : Nat) (effWant : Entry → Nat) (entries : List Entry) (grants : List Claimant)
    (h : (PassState.start effWant entries grants).Each P) : (allocate cap false effWant entries grants).Each P :=
  .foldl (topUpOne_each hoffered cap) _ (.foldl (serveOne_each hoffered hcut cap) _ (stageA_each hoffered hcut cap h))

end allocate

/-- A slot as R105 sees it against the entries its pass began with: its in-force amount has not risen, and it is marked
out of force exactly where the amount fell from positive to 0. -/
def Slot.Judged (entries : List Entry) (x : Slot) : Prop :=
  ∃ e ∈ entries, x.entry.claimant = e.claimant ∧ x.entry.inForce ≤ e.inForce
    ∧ (x.outOfForce = true ↔ 0 < e.inForce ∧ x.entry.inForce = 0) ∧ x.intoForce = false

theorem Slot.Judged.cutTo {entries : List Entry} {x : Slot} (h : x.Judged entries) (n : Nat) :
    (x.cutTo n).Judged entries := by
  obtain ⟨e, he, hcl, hle, hout, hin⟩ := h
  unfold Slot.cutTo
  split
  case isTrue hn =>
    refine ⟨e, he, hcl, by simp only; omega, ?_, hin⟩
    simp only [Bool.or_eq_true, beq_iff_eq, hout]
    omega
  case isFalse => exact ⟨e, he, hcl, hle, hout, hin⟩

theorem allocate_judged (cap : Nat) (effWant : Entry → Nat) (entries : List Entry) (grants : List Claimant) :
    (allocate cap false effWant entries grants).Each (Slot.Judged entries) := by
  refine allocate_each (fun x o a b h => h) (fun x n h => h.cutTo n) _ _ _ _ fun x hx => ?_
  obtain ⟨e, he, rfl⟩ := List.mem_map.1 hx
  exact ⟨e, he, rfl, le_rfl, iff_of_false nofun fun h => h.1.ne' h.2, rfl⟩

section judged
variable {entries : List Entry} {slots : List Slot} (hnodup : (entries.map Entry.claimant).Nodup)
  (hplaces : slots.map (fun x => x.entry.claimant) = entries.map Entry.claimant)
  (hjudged : ∀ x ∈ slots, x.Judged entries)
include hplaces

theorem exists_slot_of_inForceOf_pos {cl : Claimant}
    (h : 0 < inForceOf entries cl ∨ 0 < inForceOf (slots.map Slot.entry) cl) :
    ∃ x ∈ slots, x.entry.claimant = cl := by
  rcases h with h | h
  · obtain ⟨e, he, rfl⟩ := exists_mem_of_inForceOf_pos h
    have hmem : e.claimant ∈ slots.map fun x => x.entry.claimant := hplaces ▸ List.mem_map_of_mem he
    exact List.mem_map.1 hmem
  · obtain ⟨e, he, rfl⟩ := exists_mem_of_inForceOf_pos h
    obtain ⟨x, hx, rfl⟩ := List.mem_map.1 he
    exact ⟨x, hx, rfl⟩

include hnodup hjudged

/-- What a slot's compartment holds before and after the pass. -/
theorem inForceOf_of_judged {x : Slot} (hx : x ∈ slots) :
    inForceOf (slots.map Slot.entry) x.entry.claimant = x.entry.inForce
      ∧ x.entry.inForce ≤ inForceOf entries x.entry.claimant
      ∧ (x.outOfForce = true ↔ 0 < inForceOf entries x.entry.claimant ∧ x.entry.inForce = 0) := by
  obtain ⟨e, he, hcl, hle, hout, -⟩ := hjudged x hx
  have hnew : ((slots.map Slot.entry).map Entry.claimant).Nodup := by
    rw [List.map_map]
    exact hplaces ▸ hnodup
  rw [hcl, inForceOf_of_mem hnodup he]
  exact ⟨hcl ▸ inForceOf_of_mem hnew (List.mem_map_of_mem hx), hle, hout⟩

theorem inForceOf_le_of_judged (cl : Claimant) : inForceOf (slots.map Slot.entry) cl ≤ inForceOf entries cl := by
  rcases Nat.eq_zero_or_pos (inForceOf (slots.map Slot.entry) cl) with h | h
  · omega
  · obtain ⟨x, hx, rfl⟩ := exists_slot_of_inForceOf_pos hplaces (.inr h)
    obtain ⟨hnew, hle, -⟩ := inForceOf_of_judged hnodup hplaces hjudged hx
    omega

/-- R105: a compartment is sent out of force exactly where its amount falls from positive to 0. -/
theorem any_sendsOut_iff_of_judged (c : Comp) :
    slots.any (Slot.sendsOut c) = true
      ↔ 0 < inForceOf entries (.comp c) ∧ inForceOf (slots.map Slot.entry) (.comp c) = 0 := by
  constructor
  · intro h
    obtain ⟨x, hx, hout⟩ := List.any_eq_true.1 h
    obtain ⟨hcl, hforce⟩ : x.entry.claimant = .comp c ∧ x.outOfForce = true := by simpa [Slot.sendsOut] using hout
    obtain ⟨hnew, -, hiff⟩ := inForceOf_of_judged hnodup hplaces hjudged hx
    rw [← hcl, hnew]
    exact hiff.1 hforce
  · rintro ⟨hpos, hzero⟩
    obtain ⟨x, hx, hcl⟩ := exists_slot_of_inForceOf_pos hplaces (.inl hpos)
    obtain ⟨hnew, -, hiff⟩ := inForceOf_of_judged hnodup hplaces hjudged hx
    rw [hcl] at hnew hiff
    exact List.any_eq_true.2 ⟨x, hx, by simpa [Slot.sendsOut, hcl] using hiff.2 ⟨hpos, hnew ▸ hzero⟩⟩

end judged

end Sys2Proof.Machine
end

section
/-! PROOFS. In-force periods (R39): what a pass with bench off and a withdrawal leave of a compartment's noted-use
marker, and the account of one period that all such work keeps. -/

namespace Sys2Proof.Machine

/-- The claimants of a supply hold at most one entry each (R72). -/
def SupplyRec.Single (r : SupplyRec) : Prop := (r.entries.map Entry.claimant).Nodup

/-- The allocator has worked on one supply, as R39 sees it: in-force amounts have only fallen, and where one fell to 0
the compartment has lost its noted-use marker and NOTED is posted for it. -/
structure EndsPeriods (sup : Supply) (s t : State) : Prop where
  config : t.config = s.config
  elsewhere : ∀ u, u ≠ sup → t.supply u = s.supply u
  single : (t.supply sup).Single
  shows : ∀ {p ch x u}, Shows s p ch x u → Shows t p ch x u
  falls : ∀ c, t.inForce sup (.comp c) ≤ s.inForce sup (.comp c)
  noted : ∀ c, (t.comp c).noted
    = ((s.comp c).noted && !decide (0 < s.inForce sup (.comp c) ∧ t.inForce sup (.comp c) = 0))
  ended : ∀ c, 0 < s.inForce sup (.comp c) → t.inForce sup (.comp c) = 0 → (s.comp c).noted = true →
    s.config.notedNotices = true → ∀ p, Shows t p .noted (compsOne c) (suppliesOne sup)

/-- With bench off: compartment k had an amount of sup in force, of which a use is noted exactly if n. It holds no other
amount in force; while the period lasts its marker says n, and once it has ended the marker is clear and NOTED has been
posted if n (R39). -/
structure Period (k : Comp) (sup : Supply) (n : Bool) (s : State) : Prop where
  bench : s.config.bench = false
  single : ∀ u, (s.supply u).Single
  only : ∀ u, u ≠ sup → s.inForce u (.comp k) = 0
  noted : (s.comp k).noted = (decide (0 < s.inForce sup (.comp k)) && n)
  shows : s.inForce sup (.comp k) = 0 → n = true → s.config.notedNotices = true →
    ∀ p, Shows s p .noted (compsOne k) (suppliesOne sup)

/-- What a period reads. -/
theorem Period.of_eq {k : Comp} {sup : Supply} {n : Bool} {s t : State} (h : Period k sup n s)
    (hconfig : t.config = s.config) (hsup : t.supplies = s.supplies) (hnoted : (t.comp k).noted = (s.comp k).noted)
    (hshows : ∀ {p ch x u}, Shows s p ch x u → Shows t p ch x u) : Period k sup n t := by
  have hrec (u : Supply) : t.supply u = s.supply u := congrArg (PerSupply.get · u) hsup
  refine ⟨hconfig ▸ h.bench, fun u => hrec u ▸ h.single u, fun u hu => ?_, ?_, fun hzero hn hnn p => ?_⟩
  · rw [State.inForce_congr (hrec u)]; exact h.only u hu
  · rw [hnoted, h.noted, State.inForce_congr (hrec sup)]
  · rw [State.inForce_congr (hrec sup)] at hzero
    exact hshows (h.shows hzero hn (hconfig ▸ hnn) p)

/-- The allocator keeps the account of a period, whichever supply it works on. -/
theorem EndsPeriods.period {u : Supply} {s t : State} (h : EndsPeriods u s t) {k : Comp} {sup : Supply} {n : Bool}
    (hs : Period k sup n s) : Period k sup n t := by
  have hsingle (v : Supply) : (t.supply v).Single := by
    by_cases hv : v = u
    · exact hv ▸ h.single
    · exact h.elsewhere v hv ▸ hs.single v
  have hfalls := h.falls k
  have hnoted := h.noted k
  rw [hs.noted] at hnoted
  refine ⟨h.config ▸ hs.bench, hsingle, fun v hv => ?_, ?_, fun hzero hn hnn p => ?_⟩
  · by_cases hvu : v = u
    · subst v; have := hs.only u hv; omega
    · rw [State.inForce_congr (h.elsewhere v hvu)]; exact hs.only v hv
  · by_cases hu : u = sup
    · subst u
      rw [hnoted]
      by_cases hs0 : 0 < s.inForce sup (.comp k)
      · rcases Nat.eq_zero_or_pos (t.inForce sup (.comp k)) with ht0 | ht0
        · simp [hs0, ht0]
        · simp [hs0, ht0, ht0.ne']
      · have ht0 : t.inForce sup (.comp k) = 0 := by omega
        simp [hs0, ht0]
    · rw [hnoted, State.inForce_congr (h.elsewhere sup (Ne.symm hu))]
      simp [hs.only u hu]
  · rw [h.config] at hnn
    rcases Nat.eq_zero_or_pos (s.inForce sup (.comp k)) with hs0 | hs0
    · exact h.shows (hs.shows hs0 hn hnn p)
    · by_cases hu : u = sup
      · subst u
        exact h.ended k hs0 hzero (by rw [hs.noted, hn]; simp [hs0]) hnn p
      · rw [State.inForce_congr (h.elsewhere sup (Ne.symm hu))] at hzero
        omega

/-! ### A pass -/

/-- The slots of a pass of a supply when it is done. -/
def passSlots (sup : Supply) (s : State) : List Slot :=
  (allocate (s.supply sup).effCap s.config.bench (s.effectiveWant sup) (s.supply sup).entries
    (s.supply sup).grants).slots

/-- R85 to R90: a pass writes its slots back, sends their signals and posts. -/
theorem passOne_noticed (sup : Supply) (force : Bool) (changed : PerComp Bool) (s : State) :
    ∃ r, r.entries = (passSlots sup s).map Slot.entry
      ∧ Noticed ((passSlots sup s).foldl (signalSlot sup) (s.setSupply sup r)) (passOne sup force changed s) := by
  unfold passOne
  extract_lets r ps advance s1 s2 s3
  refine ⟨settledRec s.config.confirmWindow advance r ps, by unfold settledRec; dsimp only; split_ifs <;> rfl, ?_⟩
  have h3 : Noticed s2 s3 := by
    unfold s3
    split_ifs
    · exact post_noticed _ _ _
    · exact .refl s2
  split_ifs
  · exact h3.trans (post_noticed _ _ _)
  · exact h3

theorem passOne_signals (sup : Supply) (force : Bool) (changed : PerComp Bool) (s : State) :
    ∃ r, Signals (s.setSupply sup r) (passOne sup force changed s) := by
  obtain ⟨r, -, h⟩ := passOne_noticed sup force changed s
  exact ⟨r, (Signals.foldl (signalSlot_signals sup) _ _).trans h.signals⟩

theorem Signals.supply {sup : Supply} {r : SupplyRec} {s t : State} (h : Signals (s.setSupply sup r) t) :
    t.supply sup = r := by
  rw [State.supply, h.supplies]
  exact State.setSupply_supply s sup r

theorem Signals.supply_ne {sup : Supply} {r : SupplyRec} {s t : State} (h : Signals (s.setSupply sup r) t) {u : Supply}
    (hu : u ≠ sup) : t.supply u = s.supply u := by
  rw [State.supply, h.supplies]
  exact State.setSupply_supply_ne s sup r hu

section pass
variable {sup : Supply} {s : State} (hbench : s.config.bench = false)
include hbench

theorem passSlots_judged : ∀ x ∈ passSlots sup s, x.Judged (s.supply sup).entries := by
  unfold passSlots
  rw [hbench]
  exact allocate_judged _ _ _ _

theorem passSlots_intoForce : ∀ x ∈ passSlots sup s, x.intoForce = false := by
  intro x hx
  obtain ⟨-, -, -, -, -, h⟩ := passSlots_judged hbench x hx
  exact h

theorem passOne_bands (force : Bool) (changed : PerComp Bool) : (passOne sup force changed s).bands = s.bands := by
  obtain ⟨r, -, h⟩ := passOne_noticed sup force changed s
  exact h.bands.trans (foldl_signalSlot_bands (passSlots_intoForce hbench) sup _)

theorem passOne_endsPeriods (hsingle : (s.supply sup).Single) (force : Bool) (changed : PerComp Bool) :
    EndsPeriods sup s (passOne sup force changed s) := by
  obtain ⟨r, hr, hpost⟩ := passOne_noticed sup force changed s
  have hsig : Signals (s.setSupply sup r) (passOne sup force changed s) :=
    (Signals.foldl (signalSlot_signals sup) _ _).trans hpost.signals
  have hinto := passSlots_intoForce (sup := sup) hbench
  have hplaces : (passSlots sup s).map (fun x => x.entry.claimant) = (s.supply sup).entries.map Entry.claimant :=
    allocate_claimants _ _ _ _ _
  have hjudged := passSlots_judged (sup := sup) hbench
  have hforce (c : Comp) : (passOne sup force changed s).inForce sup (.comp c)
      = inForceOf ((passSlots sup s).map Slot.entry) (.comp c) := by rw [State.inForce, hsig.supply, hr]
  have hout (c : Comp) : (passSlots sup s).any (Slot.sendsOut c) = true
      ↔ 0 < s.inForce sup (.comp c) ∧ (passOne sup force changed s).inForce sup (.comp c) = 0 := by
    rw [hforce]
    exact any_sendsOut_iff_of_judged hsingle hplaces hjudged c
  refine ⟨(congrArg State.config hsig.eq :), fun u hu => hsig.supply_ne hu, ?_, hsig.shows, fun c => ?_, fun c => ?_,
    fun c hpos hzero hnoted hnn p => ?_⟩
  · rw [hsig.supply, SupplyRec.Single, hr, List.map_map]
    exact hplaces ▸ hsingle
  · rw [hforce]
    exact inForceOf_le_of_judged hsingle hplaces hjudged _
  · rw [hpost.comp, foldl_signalSlot_noted hinto, ← Bool.decide_congr (hout c), Bool.decide_eq_true]
    rfl
  · refine hpost.shows (foldl_signalSlot_shows hinto sup ((hout c).2 ⟨hpos, hzero⟩) ?_ ?_ p)
    · exact hnoted
    · exact hnn

end pass

/-! ### A withdrawal, and writes that leave every in-force amount -/

theorem SupplyRec.Single.without {r : SupplyRec} (h : r.Single) (cl : Claimant) : (r.without cl).Single :=
  (List.filter_sublist.map _).nodup h

theorem withdrawn_signals {sup : Supply} {k : Comp} {e : Entry} {s : State} (he : s.entry sup (.comp k) = some e) :
    Signals (s.setSupply sup ((s.supply sup).without (.comp k))) (withdrawn sup e s) := by
  rw [withdrawn_eq he]
  exact .ite (periodEnd_signals _ _ _) (.refl _)

theorem withdrawn_bands {sup : Supply} {k : Comp} {e : Entry} {s : State} (he : s.entry sup (.comp k) = some e) :
    (withdrawn sup e s).bands = s.bands := by
  rw [withdrawn_eq he]
  split
  · exact periodEnd_bands _ _ _
  · rfl

/-- R39, R75: of the in-force amounts, the withdrawal of an entry takes that entry's. -/
theorem withdrawn_endsPeriods {sup : Supply} {k : Comp} {e : Entry} {s : State}
    (he : s.entry sup (.comp k) = some e) (hsingle : (s.supply sup).Single) :
    EndsPeriods sup s (withdrawn sup e s) := by
  have hsig := withdrawn_signals he
  have hheld := State.inForce_of_entry he
  have hforce (c : Comp) :
      (withdrawn sup e s).inForce sup (.comp c) = if c = k then 0 else s.inForce sup (.comp c) := by
    rw [State.inForce, hsig.supply, inForceOf_without]
    simp [State.inForce]
  refine ⟨(congrArg State.config hsig.eq :), fun u hu => hsig.supply_ne hu, hsig.supply ▸ hsingle.without _, hsig.shows,
    fun c => ?_, fun c => ?_, fun c hpos hzero hnoted hnn p => ?_⟩
  · rw [hforce]
    split <;> omega
  · rw [hforce]
    by_cases hc : c = k
    · subst hc
      rw [withdrawn_eq he, hheld]
      by_cases hpos : 0 < e.inForce <;> simp [hpos, periodEnd_comp]
    · rw [withdrawn_eq he]
      by_cases hpos : 0 < e.inForce
      · rw [if_pos hpos, periodEnd_comp_ne _ _ hc]
        simp [hc, Nat.pos_iff_ne_zero]
      · simp [hpos, hc, Nat.pos_iff_ne_zero]
  · by_cases hc : c = k
    · subst hc
      rw [withdrawn_eq he, if_pos (hheld ▸ hpos)]
      exact periodEnd_shows sup p hnoted hnn
    · rw [hforce, if_neg hc] at hzero
      omega

/-- A write of a supply's record that leaves every in-force amount. -/
theorem setSupply_endsPeriods {sup : Supply} {r : SupplyRec} {s : State} (hr : r.Single)
    (hforce : ∀ cl, inForceOf r.entries cl = s.inForce sup cl) : EndsPeriods sup s (s.setSupply sup r) := by
  have hsame (c : Comp) : (s.setSupply sup r).inForce sup (.comp c) = s.inForce sup (.comp c) := by
    rw [State.inForce, State.setSupply_supply, hforce]
  refine ⟨rfl, fun u hu => State.setSupply_supply_ne s sup r hu, by rwa [State.setSupply_supply], id,
    fun c => (hsame c).le, fun c => ?_, fun c hpos hzero => ?_⟩
  · rw [hsame]
    simp [Nat.pos_iff_ne_zero]
  · rw [hsame] at hzero
    omega

theorem appended_endsPeriods {sup : Supply} {e : Entry} {s : State} (he : e.inForce = 0)
    (hnone : s.entry sup e.claimant = none) (hsingle : (s.supply sup).Single) :
    EndsPeriods sup s (s.setSupply sup { s.supply sup with entries := (s.supply sup).entries ++ [e] }) := by
  refine setSupply_endsPeriods ?_ fun cl => inForceOf_append_waiting he cl
  have hnew := (entryOf_eq_none_iff _ _).1 hnone
  unfold SupplyRec.Single
  rw [List.map_append]
  exact hsingle.append (List.nodup_singleton _) (by simpa using hnew)

/-- The entry changed in place keeps its claimant and amounts. -/
theorem updated_endsPeriods {sup : Supply} {cl : Claimant} {f : Entry → Entry} {s : State}
    (hc : ∀ e, (f e).claimant = e.claimant) (hf : ∀ e, (f e).inForce = e.inForce)
    (hsingle : (s.supply sup).Single) :
    EndsPeriods sup s (s.setSupply sup ((s.supply sup).updateEntry cl f)) := by
  have hc' (e : Entry) : (if e.claimant == cl then f e else e).claimant = e.claimant := by split <;> simp [hc]
  have hf' (e : Entry) : (if e.claimant == cl then f e else e).inForce = e.inForce := by split <;> simp [hf]
  refine setSupply_endsPeriods ?_ fun cl' => inForceOf_map hc' hf' _ cl'
  unfold SupplyRec.Single SupplyRec.updateEntry
  rw [List.map_map, (funext hc' : Entry.claimant ∘ _ = Entry.claimant)]
  exact hsingle

end Sys2Proof.Machine
end

section
/-! PROOFS. What the blocks behind the CPIs do for some compartments leaves of the others, of the bands, of the report
state and of the in-force periods (R12, R37 to R39), said once for each operation that a report can reach. -/

namespace Sys2Proof.Machine

/-- What an operation on a compartment's own context leaves of it: the report state, the report watch and the noted-use
marker. -/
def Context.unworked (x : Context) : ReportState × Nat × Bool := (x.report, x.watch, x.noted)

/-- t came from s by work for the compartments of own: the others have met signals alone, no band has changed but by the
flags it gained, none at all with bench off, and the account of every in-force period is kept. -/
structure Worked (own : Comp → Prop) (s t : State) : Prop where
  config : t.config = s.config
  plan : ∀ c, ¬ own c → t.plan c = s.plan c
  comp : ∀ c, ¬ own c → t.comp c = { s.comp c with state := (t.comp c).state, noted := (t.comp c).noted }
  running : ∀ c, ¬ own c → t.running c = s.running c
  report : ∀ c, (t.comp c).report = (s.comp c).report
  watch : ∀ c, (t.comp c).watch = (s.comp c).watch
  band : ∀ i, t.band i = { s.band i with noted := (t.band i).noted, steamed := (t.band i).steamed }
  noted : ∀ i, (s.band i).noted = true → (t.band i).noted = true
  steamed : ∀ i, (s.band i).steamed = true → (t.band i).steamed = true
  bands : s.config.bench = false → t.bands = s.bands
  shows : ∀ {p ch x u}, Shows s p ch x u → Shows t p ch x u
  period : ∀ {k sup n}, Period k sup n s → Period k sup n t

/-- Work that writes nothing of what Worked is about. -/
theorem Worked.of_eq {own : Comp → Prop} {s t : State} (hconfig : t.config = s.config) (hplans : t.plans = s.plans)
    (hcomps : t.comps = s.comps) (hbands : t.bands = s.bands) (hsup : t.supplies = s.supplies)
    (hshows : ∀ {p ch x u}, Shows s p ch x u → Shows t p ch x u) : Worked own s t := by
  have hcomp (c : Comp) : t.comp c = s.comp c := congrArg (PerComp.get · c) hcomps
  have hband (i : Fin 128) : t.band i = s.band i := congrArg (Vector.get · i) hbands
  exact
    { config := hconfig
      plan := fun c _ => congrArg (PerComp.get · c) hplans
      comp := fun c _ => by rw [hcomp]
      running := fun c _ => by rw [State.running, hcomp]; rfl
      report := fun c => by rw [hcomp]
      watch := fun c => by rw [hcomp]
      band := fun i => by rw [hband]
      noted := fun i h => by rwa [hband]
      steamed := fun i h => by rwa [hband]
      bands := fun _ => hbands
      shows := hshows
      period := fun h => h.of_eq hconfig hsup (by rw [hcomp]) hshows }

theorem Noticed.worked {own : Comp → Prop} {s t : State} (h : Noticed s t) : Worked own s t :=
  .of_eq (congrArg State.config h.eq :) (congrArg State.plans h.eq :) (congrArg State.comps h.eq :) h.bands
    (congrArg State.supplies h.eq :) h.shows

/-- The allocator's work on one supply, where it is right with bench off. -/
theorem Signals.worked {own : Comp → Prop} {s t : State} {sup : Supply} {r : SupplyRec}
    (h : Signals (s.setSupply sup r) t) (hbands : s.config.bench = false → t.bands = s.bands)
    (hends : s.config.bench = false → (s.supply sup).Single → EndsPeriods sup s t) : Worked own s t where
  config := (congrArg State.config h.eq :)
  plan c _ := congrArg (PerComp.get · c) h.plans
  comp c _ := h.comp c
  running c _ := h.running c
  report c := by rw [h.comp c]; rfl
  watch c := by rw [h.comp c]; rfl
  band := h.band
  noted := h.noted
  steamed := h.steamed
  bands := hbands
  shows := h.shows
  period hp := (hends hp.bench (hp.single sup)).period hp

namespace Worked
variable {own : Comp → Prop}

theorem refl (s : State) : Worked own s s := .of_eq rfl rfl rfl rfl rfl id

theorem trans {s t u : State} (h : Worked own s t) (k : Worked own t u) : Worked own s u where
  config := k.config.trans h.config
  plan c hc := (k.plan c hc).trans (h.plan c hc)
  comp c hc := (k.comp c hc).trans (by rw [h.comp c hc])
  running c hc := (k.running c hc).trans (h.running c hc)
  report c := (k.report c).trans (h.report c)
  watch c := (k.watch c).trans (h.watch c)
  band i := (k.band i).trans (by rw [h.band i])
  noted i := k.noted i ∘ h.noted i
  steamed i := k.steamed i ∘ h.steamed i
  bands hb := (k.bands (h.config ▸ hb)).trans (h.bands hb)
  shows := k.shows ∘ h.shows
  period := k.period ∘ h.period

theorem ite {s t u : State} {p : Prop} [Decidable p] (h : Worked own s t) (k : Worked own s u) :
    Worked own s (if p then t else u) := by
  split
  · exact h
  · exact k

theorem setBreach (s : State) (b : Breach) : Worked own s (s.setBreach b) := .of_eq rfl rfl rfl rfl rfl id

theorem setScore (s : State) (p : Port) (x : Score) : Worked own s (s.setScore p x) := .of_eq rfl rfl rfl rfl rfl id

theorem queueReply (p : Port) (reply : List Byte) (s : State) : Worked own s (queueReply p reply s) :=
  .of_eq rfl rfl rfl rfl rfl id

theorem post (ch : Channel) (d : Detail) (s : State) : Worked own s (post ch d s) := (post_noticed ch d s).worked

end Worked

/-! ### Allocations -/

section
variable {own : Comp → Prop}

theorem passOne_worked (sup : Supply) (force : Bool) (changed : PerComp Bool) (s : State) :
    Worked own s (passOne sup force changed s) := by
  obtain ⟨r, h⟩ := passOne_signals sup force changed s
  exact h.worked (fun hb => passOne_bands hb force changed) fun hb hs => passOne_endsPeriods hb hs force changed

/-- A pass of a supply that no other depends on. -/
theorem runPass_worked {sup : Supply} (hsup : sup ≠ .mains) (force : Bool) (changed : PerComp Bool) (before s : State) :
    Worked own s (runPass sup force changed before s) := by
  cases sup
  · exact absurd rfl hsup
  · exact passOne_worked _ _ _ s
  · exact passOne_worked _ _ _ s

theorem withdraw_worked {sup : Supply} (hsup : sup ≠ .mains) (c : Comp) (s : State) :
    Worked own s (withdraw sup (.comp c) s) := by
  cases he : s.entry sup (.comp c) with
  | none => rw [withdraw_of_entry_none he]; exact .refl s
  | some e =>
    rw [withdraw_eq hsup he]
    exact ((withdrawn_signals he).worked (fun _ => withdrawn_bands he) fun _ => withdrawn_endsPeriods he).trans
      (passOne_worked _ _ _ _)

theorem withdrawComp_worked (c : Comp) (s : State) : Worked own s (withdrawComp c s) := by
  cases hcur : s.curSupply c with
  | none => simpa [withdrawComp, hcur] using Worked.refl s
  | some sup => rw [withdrawComp_of_curSupply hcur]; exact withdraw_worked (curSupply_ne_mains hcur) c s

theorem appendEntry_worked {sup : Supply} (hsup : sup ≠ .mains) {e : Entry} (he : e.inForce = 0) (s : State) :
    Worked own s (appendEntry sup e s) := by
  unfold appendEntry
  split
  · exact .refl s
  case isFalse hnone =>
    rw [Bool.not_eq_true, Option.isSome_eq_false_iff, Option.isNone_iff_eq_none] at hnone
    refine Worked.trans ?_ (runPass_worked hsup _ _ _ _)
    exact (Signals.refl (s.setSupply sup _)).worked (fun _ => rfl) fun _ => appended_endsPeriods he hnone

theorem restrain_worked {sup : Supply} (hsup : sup ≠ .mains) (cl : Claimant) {f : Entry → Entry}
    (hc : ∀ e, (f e).claimant = e.claimant) (hf : ∀ e, (f e).inForce = e.inForce) (s : State) :
    Worked own s (restrain sup cl f s) := by
  refine Worked.ite (Worked.trans ?_ (runPass_worked hsup _ _ _ _)) (.refl s)
  exact (Signals.refl (s.setSupply sup _)).worked (fun _ => rfl) fun _ => updated_endsPeriods hc hf

theorem restrainComp_worked (c : Comp) (s : State) : Worked own s (restrainComp c s) := by
  have mark (sup : Supply) (hsup : sup ≠ .mains) (u : State) :
      Worked own u (restrain sup (.comp c) (fun e => { e with restrained := true }) u) :=
    restrain_worked (f := fun e => { e with restrained := true }) hsup _ (fun _ => rfl) (fun _ => rfl) u
  unfold restrainComp
  exact (mark .steam (by decide) s).trans (mark .dryair (by decide) _)

theorem StepKind.supply_ne_mains {k : StepKind} {sup : Supply} (h : k.supply = some sup) : sup ≠ .mains := by
  rintro rfl
  cases k <;> cases h

end

/-! ### The Treatment Sequencer -/

section
variable {own : Comp → Prop} {c : Comp} (hc : own c)
include hc

theorem Worked.setComp {s : State} {x : Context} (h : x.unworked = (s.comp c).unworked) :
    Worked own s (s.setComp c x) := by
  obtain ⟨hreport, hwatch, hnoted⟩ : x.report = _ ∧ x.watch = _ ∧ x.noted = _ := by
    simpa [Context.unworked] using h
  have hne (d : Comp) (hd : ¬ own d) : (s.setComp c x).comp d = s.comp d :=
    State.setComp_comp_ne s c x fun e => hd (e ▸ hc)
  exact
    { config := rfl
      plan := fun _ _ => rfl
      comp := fun d hd => by rw [hne d hd]
      running := fun d hd => by rw [State.running, hne d hd]; rfl
      report := fun d => by rw [State.setComp_comp_at]; split <;> simp [*]
      watch := fun d => by rw [State.setComp_comp_at]; split <;> simp [*]
      band := fun _ => rfl
      noted := fun _ => id
      steamed := fun _ => id
      bands := fun _ => rfl
      shows := id
      period := fun hp => hp.of_eq rfl rfl (by rw [State.setComp_comp_at]; split <;> simp [*]) id }

theorem Worked.modComp (s : State) (f : Context → Context) (h : ∀ x, (f x).unworked = x.unworked := by intro x; rfl) :
    Worked own s (s.modComp c f) :=
  .setComp hc (h _)

theorem Worked.setPlan (s : State) (x : List StepRec) : Worked own s (s.setPlan c x) where
  config := rfl
  plan _ hd := State.setPlan_plan_ne s c x fun e => hd (e ▸ hc)
  comp _ _ := rfl
  running _ _ := rfl
  report _ := rfl
  watch _ := rfl
  band _ := rfl
  noted _ := id
  steamed _ := id
  bands _ := rfl
  shows := id
  period hp := hp.of_eq rfl rfl rfl id

theorem claimSupply_worked (st : StepRec) (s : State) : Worked own s (claimSupply c st s) := by
  unfold claimSupply
  extract_lets s1
  have h1 : Worked own s s1 := .modComp hc s _
  split
  case h_1 hk _ => exact h1.trans (appendEntry_worked (StepKind.supply_ne_mains hk) rfl _)
  case h_2 => exact h1

theorem enterHeld_worked {sup : Supply} (hsup : sup ≠ .mains) (causes : HoldSet) (s : State) :
    Worked own s (enterHeld c sup causes s) :=
  ((withdraw_worked hsup c s).trans (.modComp hc _ _)).trans (.post _ _ _)

omit hc in
theorem recordBreach_worked (fill : Breach) (s : State) : Worked own s (recordBreach fill s) :=
  .ite (.setBreach s _) ((Worked.setBreach s _).trans (.post _ _ _))

omit hc in
theorem breachTest_worked (sup : Supply) (s : State) : Worked own s (breachTest c sup s) :=
  .ite (recordBreach_worked _ s) (.refl s)

theorem storePermitted_worked (s : State) : Worked own s (storePermitted c s) :=
  .modComp hc s fun x => { x with permitted := permittedNow s c }

theorem takeRunningState_worked (s : State) : Worked own s (takeRunningState c s) := by
  unfold takeRunningState
  refine .ite (.modComp hc s _) ?_
  split
  · exact .refl s
  · split
    · exact (storePermitted_worked hc s).trans (.modComp hc _ _)
    case h_2 sup hk =>
      have h : Worked own s (storePermitted c (breachTest c sup s)) :=
        (breachTest_worked sup s).trans (storePermitted_worked hc _)
      exact .ite (h.trans (claimSupply_worked hc _ _))
        (h.trans (enterHeld_worked hc (StepKind.supply_ne_mains hk) _ _))

theorem endTreatment_worked (o : TreatOutcome) (last : Option StepOutcome) (s : State) :
    Worked own s (endTreatment c o last s) := by
  unfold endTreatment
  extract_lets s1 s2 s3
  have h1 : Worked own s s1 := withdrawComp_worked c s
  have h2 : Worked own s s2 := by
    cases last
    · exact h1
    · exact h1.trans (.setPlan hc s1 _)
  exact ((h2.trans (.modComp hc s2 _)).trans (.post _ _ _)).trans (.post _ _ _)

theorem enterFrom_worked (l : List StepRec) (i : Nat) (s : State) : Worked own s (enterFrom c l i s) := by
  induction l generalizing i s with
  | nil => exact endTreatment_worked hc _ _ s
  | cons st rest ih =>
    unfold enterFrom
    have h1 : Worked own s (s.modComp c fun x => x.entered i) := .modComp hc s _
    exact .ite (((h1.trans (.setPlan hc _ _)).trans (.post _ _ _)).trans (ih _ _))
      (h1.trans (takeRunningState_worked hc _))

theorem closeStep_worked (o : StepOutcome) (s : State) : Worked own s (closeStep c o s) :=
  (((withdrawComp_worked c s).trans (.setPlan hc _ _)).trans (.modComp hc _ _)).trans (.post _ _ _)

theorem endTest_worked (s : State) : Worked own s (endTest c s) :=
  .ite ((closeStep_worked hc _ s).trans (enterFrom_worked hc _ _ _)) (.refl s)

omit hc in
theorem Context.reentered_unworked (x : Context) (pol : Policy) : (x.reentered pol).unworked = x.unworked := by
  cases pol <;> rfl

theorem release_worked (s : State) : Worked own s (release c s) := by
  unfold release
  split
  · exact .refl s
  case h_2 st _ =>
    exact Worked.trans (.modComp hc s (fun x => { x.reentered st.policy with hold := .none })
      fun x => x.reentered_unworked st.policy) (claimSupply_worked hc _ _)

theorem evaluateRunning_worked (s : State) : Worked own s (evaluateRunning c s) := by
  unfold evaluateRunning
  split
  · exact storePermitted_worked hc s
  case h_2 sup hcur =>
    exact .ite (storePermitted_worked hc s)
      (((breachTest_worked sup s).trans (storePermitted_worked hc _)).trans
        (enterHeld_worked hc (curSupply_ne_mains hcur) _ _))

theorem evaluateHeld_worked (s : State) : Worked own s (evaluateHeld c s) := by
  unfold evaluateHeld
  have h := storePermitted_worked hc s
  split
  · exact h
  · exact .ite (h.trans (release_worked hc _)) (h.trans (.modComp hc _ _))

theorem evaluate_worked (s : State) : Worked own s (evaluate c s) := by
  unfold evaluate
  split
  case h_1 | h_2 => exact evaluateRunning_worked hc s
  case h_3 => exact evaluateHeld_worked hc s
  case h_4 => exact storePermitted_worked hc s
  all_goals exact .refl s

theorem heatRule_worked (s : State) : Worked own s (heatRule c s) := by
  unfold heatRule
  extract_lets s1
  have h1 : Worked own s s1 := .modComp hc s _
  split
  · exact h1
  · have h2 : Worked own s (closeStep c .heatStop s1) := h1.trans (closeStep_worked hc _ _)
    have h3 (x : List StepRec) : Worked own s ((closeStep c .heatStop s1).setPlan c x) := h2.trans (.setPlan hc _ x)
    refine .ite h1 ?_
    split
    · exact (Worked.ite (h3 _) ((h3 _).trans (.post _ _ _))).trans (enterFrom_worked hc _ _ _)
    · exact (h3 _).trans (endTreatment_worked hc _ _ _)

theorem moistRule_worked (s : State) : Worked own s (moistRule c s) := by
  unfold moistRule
  extract_lets s1
  have h1 : Worked own s s1 := .modComp hc s _
  exact .ite ((h1.trans (closeStep_worked hc _ _)).trans (enterFrom_worked hc _ _ _)) h1

/-! ### The Exposure Accountant -/

theorem warnTests_worked (prof : Profile) (s : State) : Worked own s (warnTests c prof s) := by
  have hheat : Worked own s (heatWarnTest c prof s) := .ite ((Worked.modComp hc s _).trans (.post _ _ _)) (.refl s)
  have h : Worked own s (moistWarnTest c prof (heatWarnTest c prof s)) :=
    hheat.trans (.ite ((Worked.modComp hc _ _).trans (.post _ _ _)) (.refl _))
  exact .ite (h.trans (restrainComp_worked c _)) h

theorem limitTests_worked (prof : Profile) (s : State) : Worked own s (limitTests c prof s) := by
  unfold limitTests
  extract_lets x heat moist s1 s2
  have h1 : Worked own s s1 := .ite (recordBreach_worked _ s) (.refl s)
  have h2 : Worked own s s2 := .ite (h1.trans (heatRule_worked hc _)) h1
  exact .ite (h2.trans (moistRule_worked hc _)) h2

/-- R64: what follows the marking of the band. -/
theorem accountReport_worked (seq : Byte) (t : Int) (h w : Nat) (s : State) :
    Worked own (markReport c (s.modComp c fun x => x.accounted (s.profile (s.comp c).profile) seq t h w))
      (accountReport c seq t h w s) :=
  (((warnTests_worked hc _ _).trans (limitTests_worked hc _ _)).trans (endTest_worked hc _)).trans
    (evaluate_worked hc _)

end

/-! ### Standing -/

theorem evaluateAll_worked (pick : Context → Bool) (s : State) : Worked (fun _ => True) s (evaluateAll pick s) := by
  unfold evaluateAll
  generalize Comp.all = l
  induction l generalizing s with
  | nil => exact .refl s
  | cons c l ih => exact Worked.trans (.ite (evaluate_worked trivial s) (.refl s)) (ih _)

theorem cabinetStanding_worked (old new : Standing) (s : State) :
    Worked (fun _ => True) s (cabinetStanding old new s) := by
  unfold cabinetStanding
  refine Worked.trans ?_ (evaluateAll_worked _ _)
  split
  · exact passOne_worked _ _ _ s
  · exact passOne_worked _ _ _ s
  · exact .refl s

theorem postStanding_noticed (p : Port) (s : State) : Noticed s (postStanding p s) := by
  unfold postStanding
  dsimp only
  split
  · exact postTo_noticed _ _ _ s
  · exact (postTo_noticed _ _ _ s).trans (postTo_noticed _ _ _ _)

/-- R143, R148: an event of the CABINET writes its scores; where its standing changes, cabinetStanding follows. -/
theorem scoreEvent_cabinet (e : ScoreEvent) (s : State) :
    ∃ x, (x.standing = s.standing .cabinet ∧ scoreEvent .cabinet e s = s.setScore .cabinet x) ∨
      (x.standing ≠ s.standing .cabinet ∧ scoreEvent .cabinet e s
        = cabinetStanding (s.standing .cabinet) x.standing (postStanding .cabinet (s.setScore .cabinet x))) := by
  unfold scoreEvent
  split
  case isTrue => exact ⟨s.score .cabinet, .inl ⟨rfl, (s.setScore_self .cabinet).symm⟩⟩
  case isFalse =>
    refine ⟨(s.score .cabinet).after .cabinet e, ?_⟩
    extract_lets old x s1
    split
    case isTrue h => exact .inl ⟨h, rfl⟩
    case isFalse h => exact .inr ⟨h, rfl⟩

end Sys2Proof.Machine
end

section
/-! PROOFS. The permitted set an evaluation stores (R125, R127), and the account of a report of a running compartment
(R47 to R57, R64). -/

namespace Sys2Proof.Machine

/-! ### The stored permitted set -/

/-- R33: the current band follows the profile and the last T, which only an account writes. -/
theorem curBandIndex_congr {s t : State} {k : Comp} (hprof : t.profiles = s.profiles)
    (hacc : (t.comp k).account = (s.comp k).account) : t.curBandIndex k = s.curBandIndex k := by
  simp only [Context.account, Prod.mk.injEq] at hacc
  obtain ⟨-, -, -, hlastT, -, -, -, -, -, -, -, hprofile⟩ := hacc
  simp only [State.curBandIndex, State.profile, hprof, hprofile, hlastT]

theorem curBandRow_congr {s t : State} {k : Comp} (hprof : t.profiles = s.profiles)
    (hacc : (t.comp k).account = (s.comp k).account) : t.curBandRow k = s.curBandRow k := by
  have hindex := curBandIndex_congr hprof hacc
  simp only [Context.account, Prod.mk.injEq] at hacc
  obtain ⟨-, -, -, -, -, -, -, -, -, -, -, hprofile⟩ := hacc
  rw [State.curBandRow, State.curBandRow, hindex, hprofile]

/-- What permission reads (R125, R126). -/
theorem permittedNow_congr {s t : State} {k : Comp} (hprof : t.profiles = s.profiles)
    (hacc : (t.comp k).account = (s.comp k).account) (hreport : (t.comp k).report = (s.comp k).report)
    (hlimited : (t.comp k).moistLimited = (s.comp k).moistLimited)
    (hstanding : t.standing .cabinet = s.standing .cabinet)
    (hband : ∀ i, t.band i = { s.band i with noted := (t.band i).noted, steamed := (t.band i).steamed }) :
    permittedNow t k = permittedNow s k := by
  have hrow := curBandRow_congr hprof hacc
  have hrange (x : Band) (a b : Bool) (h : Nat) (sup : Supply) :
      ({ x with noted := a, steamed := b } : Band).rangeForbids h sup = x.rangeForbids h sup := by cases sup <;> rfl
  simp only [Context.account, Prod.mk.injEq] at hacc
  obtain ⟨-, -, -, -, hlastH, -, -, -, -, -, hwet, -⟩ := hacc
  have hcauses (sup : Supply) : removalCauses t k sup = removalCauses s k sup := by
    simp only [removalCauses, envelopeCauses, hrow, hlastH, hwet, hreport, hstanding]
    rw [hband, hrange]
  simp only [permittedNow, permits, hcauses, hlimited]

/-- The permitted set stored last and the flag that permission reads beside the account. -/
def Context.judged (x : Context) : PermSet × Bool := (x.permitted, x.moistLimited)

theorem Worked.judged {own : Comp → Prop} {s t : State} (h : Worked own s t) {c : Comp} (hc : ¬ own c) :
    (t.comp c).judged = (s.comp c).judged := by
  rw [h.comp c hc]
  rfl

theorem Worked.permittedNow_eq {own : Comp → Prop} {s t : State} (h : Worked own s t) (hin : Inside s t) {c : Comp}
    (hlimited : (t.comp c).moistLimited = (s.comp c).moistLimited) : permittedNow t c = permittedNow s c :=
  permittedNow_congr hin.profiles (hin.account c) (h.report c) hlimited
    (by rw [State.standing, State.score, hin.scores]; rfl) h.band

theorem claimSupply_judged (c : Comp) (st : StepRec) (s : State) :
    ((claimSupply c st s).comp c).judged = (s.comp c).judged := by
  unfold claimSupply
  extract_lets s1
  have h1 : (s1.comp c).judged = (s.comp c).judged := by simp [s1, Context.judged]
  split
  case h_1 hk _ =>
    exact ((appendEntry_worked (own := fun _ => False) (StepKind.supply_ne_mains hk) rfl s1).judged id).trans h1
  case h_2 => exact h1

theorem enterHeld_judged (c : Comp) {sup : Supply} (hsup : sup ≠ .mains) (causes : HoldSet) (s : State) :
    ((enterHeld c sup causes s).comp c).judged = (s.comp c).judged := by
  rw [← (withdraw_worked (own := fun _ => False) hsup c s).judged id]
  simp [enterHeld, Context.heldWith, Context.judged]

theorem release_judged (c : Comp) (s : State) : ((release c s).comp c).judged = (s.comp c).judged := by
  unfold release
  split
  · rfl
  case h_2 st _ =>
    rw [claimSupply_judged, State.modComp_eq, State.setComp_comp]
    cases st.policy <;> rfl

theorem storePermitted_judged (c : Comp) (s : State) :
    ((storePermitted c s).comp c).judged = (permittedNow s c, (s.comp c).moistLimited) := by
  simp [storePermitted, Context.judged]

/-- R127, R130: the breach test comes before the set is stored and reads the same. -/
theorem storePermitted_breachTest_judged (c : Comp) (sup : Supply) (s : State) :
    ((storePermitted c (breachTest c sup s)).comp c).judged = (permittedNow s c, (s.comp c).moistLimited) := by
  have hw : Worked (fun _ => False) s (breachTest c sup s) := breachTest_worked sup s
  have hlimited : ((breachTest c sup s).comp c).moistLimited = (s.comp c).moistLimited :=
    congrArg Prod.snd (hw.judged id)
  rw [storePermitted_judged, hw.permittedNow_eq (breachTest_inside c sup s) hlimited, hlimited]

/-- R127: every evaluation of a running compartment stores the set that permission gives then. -/
theorem evaluate_judged {c : Comp} {s : State} (hrun : s.running c = true) :
    ((evaluate c s).comp c).judged = (permittedNow s c, (s.comp c).moistLimited) := by
  have hstore := storePermitted_judged c s
  have running : ((evaluateRunning c s).comp c).judged = (permittedNow s c, (s.comp c).moistLimited) := by
    unfold evaluateRunning
    split
    · exact hstore
    case h_2 sup hcur =>
      split
      · exact hstore
      · exact (enterHeld_judged c (curSupply_ne_mains hcur) _ _).trans (storePermitted_breachTest_judged c sup s)
  unfold evaluate
  cases hstate : (s.comp c).state with
  | waiting | active => exact running
  | held =>
    dsimp only [evaluateHeld]
    split
    · exact hstore
    · split
      · exact (release_judged c _).trans hstore
      · rw [← hstore]
        simp [Context.judged]
  | paused => exact hstore
  | empty | loaded | ended => simp [State.running, hstate, TreatState.isRunning] at hrun

/-- The stored set of k, where k runs, is the one that permission gives now. -/
def Evaluated (k : Comp) (s : State) : Prop := s.running k = true → (s.comp k).permitted = permittedNow s k

theorem evaluate_eq_self {c : Comp} {s : State} (h : s.running c = false) : evaluate c s = s := by
  unfold evaluate
  cases hstate : (s.comp c).state with
  | empty | loaded | ended => rfl
  | waiting | active | held | paused => simp [State.running, hstate, TreatState.isRunning] at h

theorem evaluate_evaluated_self (k : Comp) (s : State) : Evaluated k (evaluate k s) := by
  cases hrun : s.running k with
  | false =>
    rw [evaluate_eq_self hrun]
    exact fun h => absurd h (by simp [hrun])
  | true =>
    intro _
    obtain ⟨hstored, hlimited⟩ : _ ∧ _ := Prod.mk.inj (evaluate_judged hrun)
    rw [hstored, (evaluate_worked (own := (· = k)) rfl s).permittedNow_eq (evaluate_inside k s) hlimited]

theorem Evaluated.evaluate_ne {k d : Comp} {s : State} (h : Evaluated k s) (hd : k ≠ d) :
    Evaluated k (evaluate d s) := by
  have hw := evaluate_worked (own := (· = d)) rfl s
  obtain ⟨hstored, hlimited⟩ : _ ∧ _ := Prod.mk.inj (hw.judged hd)
  intro hrun
  rw [hstored, hw.permittedNow_eq (evaluate_inside d s) hlimited]
  exact h (hw.running k hd ▸ hrun)

/-- R127: the walk over the compartments comes to k, and what it does for the others leaves k's set right. -/
theorem evaluateAll_evaluated (k : Comp) (s : State) : Evaluated k (evaluateAll (fun _ => true) s) := by
  unfold evaluateAll
  have hk : k ∈ Comp.all ∨ Evaluated k s := .inl (by cases k <;> decide)
  generalize Comp.all = l at hk ⊢
  induction l generalizing s with
  | nil => exact hk.resolve_left List.not_mem_nil
  | cons c l ih =>
    refine ih _ ?_
    dsimp only
    by_cases hc : k = c
    · subst hc
      right
      split
      · exact evaluate_evaluated_self k s
      case isFalse hrun => exact fun h => absurd h (by simpa using hrun)
    · refine hk.imp (fun h => (List.mem_cons.1 h).resolve_left hc) fun h => ?_
      split
      · exact h.evaluate_ne hc
      · exact h

/-! ### The close of a take of the CABINET -/

theorem Worked.acceptedWith_cabinet (kind tag : Byte) (e : ScoreEvent) (u : State) :
    Worked (fun _ => True) u (acceptedWith .cabinet kind tag e u) := by
  refine Worked.trans ?_ (.queueReply _ _ _)
  obtain ⟨x, ⟨-, h⟩ | ⟨-, h⟩⟩ := scoreEvent_cabinet e u
  · rw [h]; exact .setScore u _ x
  · rw [h]; exact ((Worked.setScore u _ x).trans (postStanding_noticed _ _).worked).trans (cabinetStanding_worked _ _ _)

theorem Inside.scoreEvent (p : Port) (e : ScoreEvent) (u : State) :
    ∃ x, Inside (u.setScore p x) (scoreEvent p e u) := by
  rcases scoreEvent_cases p e u with ⟨-, h⟩ | ⟨-, h⟩
  · exact ⟨u.score p, by rw [h, State.setScore_self]; exact .refl u⟩
  · exact ⟨_, h⟩

/-- R143: where the standing is unchanged, the take adds only the scores and the reply. -/
theorem acceptedWith_cabinet_of_standing {kind tag : Byte} {e : ScoreEvent} {u : State}
    (h : (acceptedWith .cabinet kind tag e u).standing .cabinet = u.standing .cabinet) :
    ∃ x, acceptedWith .cabinet kind tag e u
      = queueReply .cabinet [0x04, kind, tag, 0x00] (u.setScore .cabinet x) := by
  obtain ⟨x, ⟨-, hx⟩ | ⟨hne, hx⟩⟩ := scoreEvent_cabinet e u
  · exact ⟨x, by rw [acceptedWith, hx]⟩
  · refine absurd ?_ hne
    have hscores : (scoreEvent .cabinet e u).scores = (u.setScore .cabinet x).scores :=
      hx ▸ (cabinetStanding_inside _ _ _).scores.trans (postStanding_inside _ _).scores
    have hstanding : (acceptedWith .cabinet kind tag e u).standing .cabinet = x.standing := by
      rw [← State.setScore_score u .cabinet x]
      exact congrArg (fun a : PerPort Score => (a.get .cabinet).standing) hscores
    rw [← hstanding, h]

/-- R132: a change of the CABINET's standing evaluates every running compartment again. -/
theorem Evaluated.acceptedWith_cabinet {k : Comp} {u : State} (hu : Evaluated k u) (kind tag : Byte) (e : ScoreEvent) :
    Evaluated k (acceptedWith .cabinet kind tag e u) := by
  obtain ⟨x, ⟨hx, h⟩ | ⟨-, h⟩⟩ := scoreEvent_cabinet e u
  · rw [acceptedWith, h]
    have hstanding : (u.setScore .cabinet x).standing .cabinet = u.standing .cabinet :=
      (congrArg Score.standing (State.setScore_score u .cabinet x)).trans hx
    have hset : permittedNow (queueReply .cabinet [0x04, kind, tag, 0x00] (u.setScore .cabinet x)) k
        = permittedNow u k := permittedNow_congr rfl rfl rfl rfl hstanding fun _ => rfl
    exact fun hrun => (hu hrun).trans hset.symm
  · rw [acceptedWith, h]
    exact evaluateAll_evaluated k _

/-- R145: a request that stays open to a CUT port is served whatever the standing. -/
theorem checkAndServe_of_openWhileCut {p : Port} {r : Request} (hr : roleAllows p r = true)
    (ho : openWhileCut r = true) (s : State) : checkAndServe p r s = serve p r s := by
  simp [checkAndServe, hr, ho]

/-- R142, R167: a served clean duty message is scored and replied to. -/
theorem handle_clean {p : Port} {kind tag : Byte} {r : Request} {s t : State}
    (h : checkAndServe p r s = ⟨.ok, [], true, false, t⟩) (hi : isReinit r = false) (hkind : r.kind ||| 0x80 = kind) :
    handle p tag r s = acceptedWith p kind tag cleanEvent t := by
  have hscore : scoreOf r ⟨.ok, [], true, false, t⟩ = cleanEvent := by
    simp [scoreOf, cleanEvent, ScoreEvent.none, Status.accepted, Status.isFault, hi]
  simp only [handle, h, hscore, hkind, replyBytes, acceptedWith]
  rfl

/-! ### A report of a running compartment -/

theorem markReport_signals (k : Comp) (s : State) : Signals s (markReport k s) := by
  unfold markReport
  split
  · exact .refl s
  · split
    · exact .refl s
    · exact .ite (markBand_signals k _ s) (.refl s)

/-- R37, R38: the entry in force marks the band. -/
theorem markReport_of_inForce {k : Comp} {sup : Supply} {s : State} (hcur : s.curSupply k = some sup)
    (h : 0 < s.inForce sup (.comp k)) : markReport k s = markBand k sup s := by
  obtain ⟨e, he, hpos⟩ := (s.inForce_pos_iff sup (.comp k)).1 h
  simp [markReport, hcur, he, hpos]

/-- R37, R38: without an amount in force the report marks nothing. -/
theorem markReport_eq (k : Comp) (s : State) :
    markReport k s = s ∨ ∃ sup, s.curSupply k = some sup ∧ 0 < s.inForce sup (.comp k)
      ∧ markReport k s = markBand k sup s := by
  by_cases h : ∃ sup, s.curSupply k = some sup ∧ 0 < s.inForce sup (.comp k)
  · obtain ⟨sup, hcur, hpos⟩ := h
    exact .inr ⟨sup, hcur, hpos, markReport_of_inForce hcur hpos⟩
  · left
    unfold markReport
    split
    · rfl
    case h_2 sup hcur =>
      split
      · rfl
      case h_2 e he =>
        rw [if_neg fun hpos => h ⟨sup, hcur, (s.inForce_pos_iff sup _).2 ⟨e, he, hpos⟩⟩]

theorem BandKey.notes_iff (key : BandKey) {sup : Supply} (hsup : sup ≠ .mains) :
    key.notes sup = true
      ↔ key = .bothNote ∨ (sup = .steam ∧ key = .steamNote) ∨ (sup = .dryair ∧ key = .airNote) := by
  cases sup
  · exact absurd rfl hsup
  · cases key <;> simp [BandKey.notes]
  · cases key <;> simp [BandKey.notes]

/-- The state after the take of a report of a running compartment. -/
def reported (tag seq : Byte) (temp : Int) (hum wat : Nat) (k : Comp) (s : State) : State :=
  acceptedWith .cabinet 0x89 tag cleanEvent (accountReport k seq temp hum wat (startInterval .cabinet s))

/-- R48, R64, R145, R166: the report is served, of a CUT CABINET too, and is accepted. -/
theorem exec_sensrep_of_running {tag c seq : Byte} {temp h : Half} {w : Byte} {k : Comp} {s : State}
    (htake : takesAtOnce .cabinet s = true) (hc : compOf c = some k) (hseq : (s.comp k).lastSeq ≠ some seq)
    (hrun : s.running k = true) :
    exec (.sensrep .cabinet tag c seq temp h w) s
      = .next (reported tag seq (clampTemp temp) (clampHumidity h) w.toNat k s) := by
  have hkind : (Request.sensrep c seq temp h w).kind ||| 0x80 = 0x89 := by simp [Request.kind]
  have hserve : checkAndServe .cabinet (.sensrep c seq temp h w) (startInterval .cabinet s)
      = ⟨.ok, [], true, false,
        accountReport k seq (clampTemp temp) (clampHumidity h) w.toNat (startInterval .cabinet s)⟩ := by
    have hreport : takeReport k seq (clampTemp temp) (clampHumidity h) w.toNat (startInterval .cabinet s)
        = some (accountReport k seq (clampTemp temp) (clampHumidity h) w.toNat (startInterval .cabinet s)) :=
      (if_neg hseq).trans (if_pos hrun)
    rw [checkAndServe_of_openWhileCut rfl rfl, serve, doSensrep, withComp_of_some hc, hreport]
    rfl
  have hhandle := handle_clean (tag := tag) hserve rfl hkind
  exact congrArg Host.Outcome.next ((if_pos htake).trans hhandle)

section report
variable (tag seq : Byte) (temp : Int) (hum wat : Nat) (k : Comp) (s : State)

/-- R64, step 2: the report is taken and the account written. -/
def accounted : State :=
  (startInterval .cabinet s).setComp k
    ((s.comp k).accounted (s.profile (s.comp k).profile) seq temp hum wat)

/-- R64, step 3: the band the report finds is marked. -/
def marked : State := markReport k (accounted seq temp hum wat k s)

theorem accounted_comp :
    (accounted seq temp hum wat k s).comp k
      = (s.comp k).accounted (s.profile (s.comp k).profile) seq temp hum wat :=
  State.setComp_comp _ _ _

theorem marked_inside : Inside (accounted seq temp hum wat k s) (marked seq temp hum wat k s) := markReport_inside k _

theorem accountReport_inside_accounted :
    Inside (accounted seq temp hum wat k s) (accountReport k seq temp hum wat (startInterval .cabinet s)) :=
  accountReport_inside k seq temp hum wat (startInterval .cabinet s)

theorem accountReport_worked_marked :
    Worked (· = k) (marked seq temp hum wat k s) (accountReport k seq temp hum wat (startInterval .cabinet s)) :=
  accountReport_worked (own := (· = k)) rfl seq temp hum wat (startInterval .cabinet s)

/-- Behind the scores and the reply, the take is work inside the part on the account. -/
theorem reported_inside :
    ∃ x v, Inside ((accounted seq temp hum wat k s).setScore .cabinet x) v
      ∧ reported tag seq temp hum wat k s = queueReply .cabinet [0x04, 0x89, tag, 0x00] v := by
  have hu := accountReport_inside_accounted seq temp hum wat k s
  obtain ⟨x, hx⟩ :=
    Inside.scoreEvent .cabinet cleanEvent (accountReport k seq temp hum wat (startInterval .cabinet s))
  refine ⟨x, _, Inside.trans ?_ hx, rfl⟩
  exact ⟨hu.mode, hu.config, hu.profiles, hu.feeders, congrArg (PerPort.set · .cabinet x) hu.scores, hu.cpis,
    hu.pointers, hu.pending, hu.plans, hu.account, hu.lines, hu.breach⟩

theorem reported_worked :
    Worked (fun _ => True) (marked seq temp hum wat k s) (reported tag seq temp hum wat k s) :=
  (accountReport_worked trivial seq temp hum wat (startInterval .cabinet s)).trans
    (.acceptedWith_cabinet _ _ _ _)

theorem marked_signals : Signals (accounted seq temp hum wat k s) (marked seq temp hum wat k s) :=
  markReport_signals k _

theorem reported_account :
    ((reported tag seq temp hum wat k s).comp k).account
      = ((s.comp k).accounted (s.profile (s.comp k).profile) seq temp hum wat).account := by
  obtain ⟨x, v, hv, ht⟩ := reported_inside tag seq temp hum wat k s
  rw [ht, ← accounted_comp]
  exact hv.account k

theorem reported_profiles : (reported tag seq temp hum wat k s).profiles = s.profiles := by
  obtain ⟨x, v, hv, ht⟩ := reported_inside tag seq temp hum wat k s
  rw [ht]
  exact hv.profiles

theorem reported_kept : Kept s (reported tag seq temp hum wat k s) := by
  have hband (i : Fin 128) := (reported_worked tag seq temp hum wat k s).band i
  have hmark (i : Fin 128) := (marked_signals seq temp hum wat k s).band i
  obtain ⟨x, v, hv, ht⟩ := reported_inside tag seq temp hum wat k s
  refine ⟨?_, ?_, reported_profiles tag seq temp hum wat k s, ?_, ?_, ?_,
    fun i => (hband i).trans (by rw [hmark i]; rfl)⟩ <;> rw [ht]
  · exact hv.mode
  · exact hv.config
  · exact hv.feeders
  · exact hv.pointers
  · exact hv.pending

theorem reported_answered : Answered .cabinet [0x04, 0x89, tag, 0x00] s (reported tag seq temp hum wat k s) := by
  obtain ⟨x, v, hv, ht⟩ := reported_inside tag seq temp hum wat k s
  rw [ht]
  refine ⟨?_, fun q hq => ?_⟩
  · have hq : (queueReply .cabinet [0x04, 0x89, tag, 0x00] v).cpis = v.cpis.set .cabinet
        { v.cpis.get .cabinet with outbound := (v.cpis.get .cabinet).outbound ++ [[0x04, 0x89, tag, 0x00]] } := rfl
    rw [hq, hv.cpis]
    rfl
  · have hscore : (queueReply .cabinet [0x04, 0x89, tag, 0x00] v).score q = v.scores.get q := rfl
    rw [hscore, hv.scores]
    exact State.setScore_score_ne _ .cabinet x hq

theorem reported_report : ((reported tag seq temp hum wat k s).comp k).report = .fresh := by
  rw [(reported_worked tag seq temp hum wat k s).report, (marked_signals seq temp hum wat k s).comp, accounted_comp]
  rfl

theorem reported_watch : ((reported tag seq temp hum wat k s).comp k).watch = 0 := by
  rw [(reported_worked tag seq temp hum wat k s).watch, (marked_signals seq temp hum wat k s).comp, accounted_comp]
  rfl

/-- R127, R132: the report ends with an evaluation, and so does a change of standing. -/
theorem reported_evaluated : Evaluated k (reported tag seq temp hum wat k s) :=
  Evaluated.acceptedWith_cabinet (evaluate_evaluated_self k _) _ _ _

/-- R12, R39: the other compartments meet only the signals of the passes. -/
theorem reported_othersKept
    (h : (reported tag seq temp hum wat k s).standing .cabinet = s.standing .cabinet) :
    OthersKept k s (reported tag seq temp hum wat k s) := by
  have hu := accountReport_worked_marked seq temp hum wat k s
  have hmark := marked_signals seq temp hum wat k s
  have hscores := (accountReport_inside_accounted seq temp hum wat k s).scores
  have hstanding : (accountReport k seq temp hum wat (startInterval .cabinet s)).standing .cabinet
      = s.standing .cabinet := congrArg (fun a : PerPort Score => (a.get .cabinet).standing) hscores
  obtain ⟨x, ht⟩ := acceptedWith_cabinet_of_standing (h.trans hstanding.symm)
  have hw : Worked (· = k) (marked seq temp hum wat k s) (reported tag seq temp hum wat k s) := by
    rw [reported, ht]
    exact (hu.trans (.setScore _ _ x)).trans (.queueReply _ _ _)
  intro d hd
  have hcomp : (accounted seq temp hum wat k s).comp d = s.comp d := State.setComp_comp_ne _ _ _ hd
  exact ⟨(hw.plan d hd).trans (congrArg (PerComp.get · d) hmark.plans),
    (hw.comp d hd).trans (by rw [hmark.comp d, hcomp])⟩

/-! ### The marks of a report -/

theorem curBandIndex_reported :
    (reported tag seq temp hum wat k s).curBandIndex k = (accounted seq temp hum wat k s).curBandIndex k := by
  refine curBandIndex_congr (reported_profiles tag seq temp hum wat k s) ?_
  rw [reported_account, accounted_comp]

/-- R33: the band the report finds. -/
theorem finds_iff (i : Fin 128) :
    i.val = (s.comp k).profile.val * 8 + ((reported tag seq temp hum wat k s).curBandIndex k).val
      ↔ i = (accounted seq temp hum wat k s).curBandRow k := by
  rw [curBandIndex_reported, State.curBandRow, accounted_comp, Fin.ext_iff]
  rfl

variable {k s}

theorem marked_of_inForce {sup : Supply} (hcur : s.curSupply k = some sup) (h : 0 < s.inForce sup (.comp k)) :
    marked seq temp hum wat k s = markBand k sup (accounted seq temp hum wat k s) := by
  refine markReport_of_inForce ?_ h
  rw [← hcur]
  simp only [State.curSupply, State.curStep, accounted_comp]
  rfl

theorem reported_marks {sup : Supply} (hcur : s.curSupply k = some sup) (h : 0 < s.inForce sup (.comp k))
    {i : Fin 128} (hi : i = (accounted seq temp hum wat k s).curBandRow k) :
    (sup = .steam → ((reported tag seq temp hum wat k s).band i).steamed = true)
      ∧ ((s.band i).key.notes sup = true → ((reported tag seq temp hum wat k s).band i).noted = true) := by
  have hw := reported_worked tag seq temp hum wat k s
  have hmark := markBand_band k sup (accounted seq temp hum wat k s) i
  rw [← marked_of_inForce seq temp hum wat hcur h, if_pos hi] at hmark
  refine ⟨fun hsteam => hw.steamed i ?_, fun hnotes => hw.noted i ?_⟩ <;> rw [hmark]
  · simp [hsteam]
  · exact Bool.or_eq_true_iff.2 (.inr hnotes)

/-- R37, R38: the report begins the account of the period in which it finds an amount in force. -/
theorem reported_period {sup : Supply} (hcur : s.curSupply k = some sup) (h : 0 < s.inForce sup (.comp k))
    (hbench : s.config.bench = false) (hsafe : SuppliesSafe s) (hentries : EntriesWhileRunning s) :
    Period k sup ((s.comp k).noted || (s.band ((accounted seq temp hum wat k s).curBandRow k)).key.notes sup)
      (reported tag seq temp hum wat k s) := by
  refine (reported_worked tag seq temp hum wat k s).period ?_
  rw [marked_of_inForce seq temp hum wat hcur h]
  refine ⟨hbench, fun u => (hsafe u).1, fun u hu => ?_, ?_, fun hzero => absurd h (hzero ▸ lt_irrefl _)⟩
  · have hnone : s.entry u (.comp k) = none := by
      by_contra hne
      obtain ⟨-, hu'⟩ := (hentries k).2 u (Option.isSome_iff_ne_none.2 hne)
      exact hu (Option.some.inj (hu'.symm.trans hcur))
    exact State.inForce_of_entry_none hnone
  · have hpos : 0 < (markBand k sup (accounted seq temp hum wat k s)).inForce sup (.comp k) := h
    rw [markBand_noted, accounted_comp, decide_eq_true hpos, Bool.true_and]
    rfl

/-- With bench off no band but the one found is marked, and that one only by an amount in force. -/
theorem reported_bands (hbench : s.config.bench = false) (i : Fin 128) :
    (reported tag seq temp hum wat k s).band i = s.band i
      ∨ ∃ sup, s.curSupply k = some sup ∧ 0 < s.inForce sup (.comp k)
        ∧ i = (accounted seq temp hum wat k s).curBandRow k
        ∧ (reported tag seq temp hum wat k s).band i
          = { s.band i with noted := (s.band i).noted || (s.band i).key.notes sup
                            steamed := (s.band i).steamed || sup == .steam } := by
  have hconfig : (marked seq temp hum wat k s).config.bench = false := by
    rw [(marked_inside seq temp hum wat k s).config]
    exact hbench
  have hband : (reported tag seq temp hum wat k s).band i = (marked seq temp hum wat k s).band i :=
    congrArg (Vector.get · i) ((reported_worked tag seq temp hum wat k s).bands hconfig)
  have hcur : (accounted seq temp hum wat k s).curSupply k = s.curSupply k := by
    simp only [State.curSupply, State.curStep, accounted_comp]
    rfl
  rw [hband]
  rcases markReport_eq k (accounted seq temp hum wat k s) with h | ⟨sup, hsup, hpos, h⟩
  · left
    rw [marked, h]
    rfl
  · rw [marked, h, markBand_band]
    by_cases hi : i = (accounted seq temp hum wat k s).curBandRow k
    · rw [if_pos hi]
      exact .inr ⟨sup, hcur ▸ hsup, hpos, hi, rfl⟩
    · rw [if_neg hi]
      exact .inl rfl

end report

theorem Context.interval_eq (x : Context) :
    x.interval = if x.baseline = false then 0 else if x.report = .stale then 20 else min 20 x.watch := by
  simp [Context.interval, Config.staleInterval, Nat.min_comm]

/-- Settles O31: the account is that of step 2 of R64, which the rest of the report and its scoring keep; the marks are
those of step 3, after which the account of the in-force period holds. -/
theorem runningReportIsAccounted : Obligations.RunningReportIsAccounted := by
  unfold Obligations.RunningReportIsAccounted
  intro s tag c seq temp h w k htake hc hseq hrun x prof tC hC eT eH dt
  have hacc := reported_account tag seq (clampTemp temp) (clampHumidity h) w.toNat k s
  have hkept := reported_kept tag seq (clampTemp temp) (clampHumidity h) w.toNat k s
  simp only [Context.account, Prod.mk.injEq] at hacc
  obtain ⟨hhd, hmd, hws, hlastT, hlastH, hlastW, hheat, hmoist, hlastSeq, hbase, hwet, -⟩ := hacc
  have hdt : x.interval = dt := x.interval_eq
  refine ⟨_, exec_sensrep_of_running htake hc hseq hrun, hkept, reported_answered _ _ _ _ _ _ _,
    ?_, ?_, ?_, hwet, hheat, hmoist, hbase, hlastT, hlastH, hlastW, hlastSeq, reported_report _ _ _ _ _ _ _,
    reported_watch _ _ _ _ _ _ _, reported_evaluated _ _ _ _ _ _ _, reported_othersKept _ _ _ _ _ _ _, ?_⟩
  · rw [hhd, ← hdt]
    rfl
  · rw [hmd, ← hdt]
    rfl
  · rw [hws, ← hdt]
    rfl
  intro held finds notes
  have hheld (y : State) (sup : Supply) : held y sup ↔ 0 < y.inForce sup (.comp k) :=
    (y.inForce_pos_iff sup (.comp k)).symm
  have hfinds (i : Fin 128) : finds i ↔ _ := finds_iff tag seq (clampTemp temp) (clampHumidity h) w.toNat k s i
  have hnotes (i : Fin 128) {sup : Supply} (hcur : s.curSupply k = some sup) :
      (s.band i).key.notes sup = true ↔ notes i sup := BandKey.notes_iff _ (curSupply_ne_mains hcur)
  refine ⟨fun i sup hcur hs hi => ?_, fun hbench i => ?_⟩
  · rw [hheld] at hs
    rw [hfinds] at hi
    obtain ⟨hsteamed, hnoted⟩ := reported_marks tag seq (clampTemp temp) (clampHumidity h) w.toNat hcur hs hi
    rw [hnotes i hcur] at hnoted
    refine ⟨hsteamed, hnoted, fun hbench hsafe hentries => ?_⟩
    have hperiod := reported_period tag seq (clampTemp temp) (clampHumidity h) w.toNat hcur hs hbench hsafe hentries
    rw [← hi] at hperiod
    have hmarker := hperiod.noted
    rw [hheld]
    refine ⟨fun ht => ?_, fun ht => ⟨?_, fun hn hnn => hperiod.shows (by omega) ?_ (hkept.config ▸ hnn)⟩⟩
    · rw [hmarker, decide_eq_true ht, Bool.true_and, Bool.or_eq_true, hnotes i hcur]
    · rw [hmarker, decide_eq_false ht, Bool.false_and]
    · rwa [Bool.or_eq_true, hnotes i hcur]
  · rcases reported_bands tag seq (clampTemp temp) (clampHumidity h) w.toNat hbench i with
      hsame | ⟨sup, hcur, hs, hi, hband⟩
    · rw [hsame]
      exact ⟨.inl, .inl⟩
    · rw [← hheld] at hs
      rw [← hfinds] at hi
      rw [hband]
      simp only [Bool.or_eq_true, beq_iff_eq, hnotes i hcur]
      exact ⟨Or.imp_right fun hsteam => ⟨hsteam ▸ hcur, hsteam ▸ hs, hi⟩,
        Or.imp_right fun hnote => ⟨sup, hcur, hs, hi, hnote⟩⟩

end Sys2Proof.Machine
end

section
/-! PROOFS. Notices: NTDONE, NTMASK and NTCFG (R154 to R156), served from any port in any standing (R145, R166). -/

namespace Sys2Proof.Machine

/-! ### The owning block's answer to a request open to every port in every standing -/

/-- R145, R166: neither check can refuse the request, whatever the port and its standing. -/
structure Unrestricted (r : Request) : Prop where
  role : ∀ p, roleAllows p r = true
  cut : openWhileCut r = true

theorem unrestricted_ntdone (ch : Byte) : Unrestricted (.ntdone ch) :=
  ⟨fun p => by cases p <;> rfl, rfl⟩

theorem unrestricted_ntmask (mask : Half) : Unrestricted (.ntmask mask) :=
  ⟨fun p => by cases p <;> rfl, rfl⟩

theorem unrestricted_ntcfg (base en : Byte) : Unrestricted (.ntcfg base en) :=
  ⟨fun p => by cases p <;> rfl, rfl⟩

section unrestricted
variable {p : Port} {kind tag : Byte} {r : Request} {s : State} (htake : takesAtOnce p s = true) (hr : Unrestricted r)
include htake hr

theorem submit_of_unrestricted {a : Answer} (ha : serve p r (startInterval p s) = a) :
    submit p tag r s = queueReply p (replyBytes r.kind tag a.status a.body)
      (if scoreOf r a = ScoreEvent.none then a.state else scoreEvent p (scoreOf r a) a.state) := by
  rw [submit, if_pos htake, handle, checkAndServe_of_openWhileCut (hr.role p) hr.cut, ha]

/-- R167: a refusal that is no fault is replied to and changes nothing, in any standing. -/
theorem submit_refused_of_unrestricted {code : Byte} {st : Status}
    (ha : serve p r (startInterval p s) = answer st (startInterval p s))
    (hst : (st.accepted || st.isFault) = false) (hkind : r.kind ||| 0x80 = kind) (hcode : st.code = code) :
    submit p tag r s = refusedWith p kind tag code s := by
  obtain ⟨hacc, hfault⟩ := Bool.or_eq_false_iff.1 hst
  have hscore : scoreOf r (answer st (startInterval p s)) = ScoreEvent.none := by
    simp [scoreOf, answer, ScoreEvent.none, hacc, hfault]
  rw [submit_of_unrestricted htake hr ha, if_pos hscore, ← hkind, ← hcode]
  rfl

/-- R140, R167: a plain acceptance is scored and replied to, in any standing. -/
theorem submit_accepted_of_unrestricted {t : State} (ha : serve p r (startInterval p s) = answer .ok t)
    (hi : isReinit r = false) (hkind : r.kind ||| 0x80 = kind) :
    submit p tag r s = acceptedWith p kind tag acceptedEvent t := by
  have hscore : scoreOf r (answer .ok t) = acceptedEvent := by
    simp [scoreOf, answer, acceptedEvent, ScoreEvent.none, Status.accepted, Status.isFault, hi]
  rw [submit_of_unrestricted htake hr ha, hscore, if_neg (by decide), ← hkind]
  rfl

end unrestricted

/-! ### NTDONE and NTCFG, a case at a time -/

theorem doNtdone_of_le {ch : Byte} (h : 16 ≤ ch.toNat) (p : Port) (s : State) : doNtdone p ch s = answer .range s :=
  dif_neg (Nat.not_lt.2 h)

theorem doNtdone_of_not_inService {p : Port} {ch : Byte} {s : State} (h : ch.toNat < 16)
    (hin : (s.notice p).inService.getLsbD ch.toNat = false) : doNtdone p ch s = answer .nothing s :=
  (dif_pos h).trans (if_neg (by simp [hin]))

theorem doNtdone_of_inService {p : Port} {ch : Byte} {s : State} (h : ch.toNat < 16)
    (hin : (s.notice p).inService.getLsbD ch.toNat = true) :
    doNtdone p ch s = answer .ok (s.updateNotice p fun x => x.retired ⟨ch.toNat, h⟩) :=
  (dif_pos h).trans (if_pos hin)

theorem doNtcfg_of_le {base : Byte} (h : 16 ≤ base.toNat) (p : Port) (en : Byte) (s : State) :
    doNtcfg p base en s = answer .range s :=
  if_pos h

theorem doNtcfg_of_lt {base : Byte} (h : base.toNat < 16) (p : Port) (en : Byte) (s : State) :
    doNtcfg p base en s = answer .ok (s.updateNotice p fun x => x.configured base.toNat (en != 0)) :=
  if_neg (by omega)

/-- R156, R171: the byte 0x00 turns the enable off and empties the in-service set; any other turns it on. -/
theorem Notice.configured_ne_zero (x : Notice) (base : Nat) (en : Byte) :
    x.configured base (en != 0)
      = { x with base := base, enable := decide (en ≠ 0), inService := if en = 0 then 0 else x.inService } := by
  have hen : (en != 0) = decide (en ≠ 0) := decide_not.symm
  rw [hen]
  by_cases h : en = 0 <;> simp [Notice.configured, h]

/-- Settles O50: the cases of each request's answer, each carried through the take. -/
theorem noticeRequestsSetTheirFields : Obligations.NoticeRequestsSetTheirFields := by
  unfold Obligations.NoticeRequestsSetTheirFields
  intro s p tag ch base en mask htake
  dsimp only
  have hkdone : (Request.ntdone ch).kind ||| 0x80 = 0x95 := by simp [Request.kind]
  have hkmask : (Request.ntmask mask).kind ||| 0x80 = 0x96 := by simp [Request.kind]
  have hkcfg : (Request.ntcfg base en).kind ||| 0x80 = 0x97 := by simp [Request.kind]
  have hdone := unrestricted_ntdone ch
  have hcfg := unrestricted_ntcfg base en
  refine ⟨fun hch => ?_, fun hch hin => ?_, fun hch hin => ?_, ?_, fun hbase => ?_, fun hbase => ?_⟩ <;>
    refine congrArg Host.Outcome.next ?_
  · exact submit_refused_of_unrestricted htake hdone (doNtdone_of_le hch p _) rfl hkdone rfl
  · exact submit_refused_of_unrestricted htake hdone (doNtdone_of_not_inService hch hin) rfl hkdone rfl
  · exact submit_accepted_of_unrestricted htake hdone (doNtdone_of_inService hch hin) rfl hkdone
  · exact submit_accepted_of_unrestricted htake (unrestricted_ntmask mask) rfl rfl hkmask
  · exact submit_refused_of_unrestricted htake hcfg (doNtcfg_of_le hbase p en _) rfl hkcfg rfl
  · rw [← Notice.configured_ne_zero]
    exact submit_accepted_of_unrestricted htake hcfg (doNtcfg_of_lt hbase p en _) rfl hkcfg

end Sys2Proof.Machine
end

section
/-! PROOFS. Select windows: SELECT_WINDOW_OPEN and SELECT_WINDOW_CLOSE (R160, R162), over what a scored event leaves of
the ports. -/

namespace Sys2Proof.Machine

/-! ### What a scored event leaves of the ports -/

section scoreEvent
variable (p : Port) (e : ScoreEvent) (s : State)

theorem scoreEvent_cpis : (scoreEvent p e s).cpis = s.cpis := by
  obtain ⟨x, h⟩ := Inside.scoreEvent p e s
  exact h.cpis

theorem scoreEvent_score_ne {q : Port} (hq : q ≠ p) : (scoreEvent p e s).score q = s.score q := by
  obtain ⟨x, h⟩ := Inside.scoreEvent p e s
  rw [State.score, h.scores]
  exact State.setScore_score_ne s p x hq

theorem scoreEvent_score_self :
    (scoreEvent p e s).score p = if s.mode = .watch then s.score p else (s.score p).after p e := by
  rcases scoreEvent_cases p e s with ⟨hwatch, h⟩ | ⟨hwatch, h⟩
  · rw [h, if_pos hwatch]
  · rw [State.score, h.scores, if_neg hwatch]
    exact State.setScore_score s p _

/-- R143: an event that leaves its port's standing writes the scores of that port and does nothing else. -/
theorem scoreEvent_of_standing_eq (hst : (scoreEvent p e s).standing p = s.standing p) :
    scoreEvent p e s = s.setScore p ((scoreEvent p e s).score p) := by
  rw [State.standing, scoreEvent_score_self] at hst
  rw [scoreEvent_score_self]
  by_cases hwatch : s.mode = .watch
  · rw [if_pos hwatch, State.setScore_self, scoreEvent, if_pos hwatch]
  · rw [if_neg hwatch] at hst ⊢
    rw [scoreEvent, if_neg hwatch]
    exact if_pos hst

end scoreEvent

/-- R139: a fault raises RFS by 1, saturating, in every standing. -/
theorem Score.after_requestFault_rfs (x : Score) (p : Port) :
    (x.after p .requestFault).rfs = min 511 (x.rfs + 1) := by
  by_cases hcut : x.standing = .cut <;>
    simp [Score.after, hcut, ScoreEvent.requestFault, ScoreEvent.none, raiseScore, Config.scoreTop]

/-! ### SELECT_WINDOW_CLOSE, a case at a time -/

/-- R160, R162: what the end of the window leaves of the port's CPI, whatever assembly was doing. -/
def Cpi.shut (x : Cpi) : Cpi := { x with selected := false, assembly := .idle, bits := [] }

theorem Assembly.cutShort_eq_false_iff (a : Assembly) : a.cutShort = false ↔ ∀ bytes, a ≠ .assembling bytes := by
  cases a <;> simp [Assembly.cutShort]

section selectWindowClose
variable {p : Port} {s : State}

theorem exec_selectWindowClose_of_not_selected (h : (s.cpi p).selected = false) :
    exec (.selectWindowClose p) s = .next s :=
  if_neg (by simp [h])

theorem exec_selectWindowClose_of_not_cutShort (hsel : (s.cpi p).selected = true)
    (hcut : (s.cpi p).assembly.cutShort = false) :
    exec (.selectWindowClose p) s = .next (s.setCpi p (s.cpi p).shut) :=
  (if_pos hsel).trans (congrArg Host.Outcome.next (if_neg (by simp [hcut])))

/-- R162: the record cut short is charged as a fault of R139. -/
theorem exec_selectWindowClose_of_cutShort (hsel : (s.cpi p).selected = true)
    (hcut : (s.cpi p).assembly.cutShort = true) :
    exec (.selectWindowClose p) s = .next (scoreEvent p .requestFault (s.setCpi p (s.cpi p).shut)) :=
  (if_pos hsel).trans (congrArg Host.Outcome.next (if_pos hcut))

end selectWindowClose

/-- Settles O3: the window's close writes the CPI; where it cuts a record short it then scores one fault. -/
theorem selectWindowsOpenAndClose : Obligations.SelectWindowsOpenAndClose := by
  unfold Obligations.SelectWindowsOpenAndClose
  intro p s
  refine ⟨rfl, exec_selectWindowClose_of_not_selected, fun hsel => ⟨fun hkept => ?_, fun bytes hasm => ?_⟩⟩
  · exact exec_selectWindowClose_of_not_cutShort hsel ((Assembly.cutShort_eq_false_iff _).2 hkept)
  · have hcut : (s.cpi p).assembly.cutShort = true := congrArg Assembly.cutShort hasm
    refine ⟨_, exec_selectWindowClose_of_cutShort hsel hcut, scoreEvent_cpis _ _ _, ?_,
      fun _ => scoreEvent_score_ne _ _ _, scoreEvent_of_standing_eq _ _ _⟩
    rw [scoreEvent_score_self, apply_ite Score.rfs, Score.after_requestFault_rfs]
    rfl

end Sys2Proof.Machine
end
